-- ==== Sys2Proof/Word.lean ====
section
/-! DEFINITION. The word types of the block (00_scope.md R7, 10_state.md R20): names for the widths the spec gives. -/

namespace Sys2Proof

/-- `u8`: a sensor register cell, a register address, an operand byte (R7). -/
abbrev Byte := BitVec 8

/-- A 32-bit command word, or a 32-bit value at the host port (R90, R35). -/
abbrev Word := BitVec 32

/-- `u7`: a bus device address (R21, R60). -/
abbrev BusAddr := BitVec 7

/-- `u2`: a full-scale range enum (R23). -/
abbrev RangeEnum := BitVec 2

/-- `u18`: ten times a scale divisor (R24). -/
abbrev Div10 := BitVec 18

/-- A raw sample, 16 bits, two's complement (R38). -/
abbrev Sample := BitVec 16

/-- A Q16.16 result, 32 bits, two's complement (R39). -/
abbrev Q16 := BitVec 32

/-- A set of bus device addresses as "a 128-bit mask in hardware" (92_eei_decisions.md D26): bit `a` is
set when a device is present at address `a`. -/
abbrev ScanSet := BitVec 128

end Sys2Proof
end

