-- ==== Sys2Proof/Syntax.lean ====
section
/-! DEFINITION. The seventeen commands of 30_encoding.md R93 as one inductive type, one constructor per row of
the opcode table, with the operands of R92, R95 and R96. -/

namespace Sys2Proof

/-- The `sensor` operand of formats S and G (R95). -/
inductive Sensor where
  | accel   -- 0
  | gyro    -- 1
deriving DecidableEq, Repr

/-- The scale selector `sel` of RDTRIPLE (R96); its reserved codes 2 to 7 are no selector. -/
inductive ScaleSel where
  /-- 0 and 1: ACC_SCALE and GYR_SCALE, which need the valid bit. -/
  | cached (sensor : Sensor)
  /-- 8 to 11 and 12 to 15: the table entries, which need nothing. -/
  | table (sensor : Sensor) (r : RangeEnum)
deriving DecidableEq, Repr

/-- A command. -/
inductive Instr where
  | bind (busaddr : BusAddr) (reqA reqG : RangeEnum)
  | wrreg (addr byte : Byte)
  | rdreg (addr : Byte) (count : BitVec 3)
  | rmw (addr maskClear bitsSet : Byte)
  | reset
  | wake
  | setrange (sensor : Sensor) (r : RangeEnum)
  | getrange (sensor : Sensor)
  | init
  | start
  | stop
  | probe
  | chkid
  | rdtriple (addr : Byte) (sel : ScaleSel)
  | getacc
  | getgyro
  | gettemp
deriving DecidableEq, Repr

end Sys2Proof
end

