-- ==== Sys2Proof/WellFormed.lean ====
section
/-! DEFINITION. Which instructions are legal commands: the value conditions of 30_encoding.md R93. -/

namespace Sys2Proof

/-- The count of RDREG is 1 to 6 (R93; 92_eei_decisions.md D17). -/
def countInRange (count : BitVec 3) : Bool := decide (1 ≤ count.toNat ∧ count.toNat ≤ 6)

/-- A legal command. Every other operand of every command may take every value of its type (R92); the
reserved selectors of RDTRIPLE have no `ScaleSel`. -/
def Instr.wellFormed : Instr → Bool
  | .rdreg _ count => countInRange count
  | .bind _ _ _ => true
  | .wrreg _ _ => true
  | .rmw _ _ _ => true
  | .reset => true
  | .wake => true
  | .setrange _ _ => true
  | .getrange _ => true
  | .init => true
  | .start => true
  | .stop => true
  | .probe => true
  | .chkid => true
  | .rdtriple _ _ => true
  | .getacc => true
  | .getgyro => true
  | .gettemp => true

end Sys2Proof
end

