-- ==== Sys2Proof/Decode.lean ====
section
/-! DEFINITION. The decoder of 30_encoding.md R94, total on every 32-bit word and rejecting by name, and the
encoder written from the same table (R90, R92, R93, R96). -/

namespace Sys2Proof

/-- Why a word is illegal (R97). -/
inductive DecodeError where
  /-- Its `op` is not one of the seventeen of R93. -/
  | unknownOpcode
  /-- A must-be-zero bit of its format is 1. -/
  | mustBeZero
  /-- RDREG with count 0 or 7. -/
  | countOutOfRange
  /-- RDTRIPLE with sel 2 to 7. -/
  | selReserved
deriving DecidableEq, Repr

/-- The rows of R93. -/
inductive Op where
  | bind | wrreg | rdreg | rmw | reset | wake | setrange | getrange | init | start | stop | probe | chkid
  | rdtriple | getacc | getgyro | gettemp
deriving DecidableEq, Repr

/-- A row's opcode byte, match and mask (R93). -/
structure OpRow where
  code : Byte
  pattern : Word
  mask : Word
deriving DecidableEq, Repr

/-- The opcode map of R93. -/
def opRow : Op → OpRow
  | .bind     => ⟨0x01, 0x01000000, 0xFF80FCFC⟩
  | .wrreg    => ⟨0x10, 0x10000000, 0xFF0000FF⟩
  | .rdreg    => ⟨0x11, 0x11000000, 0xFF00F8FF⟩
  | .rmw      => ⟨0x12, 0x12000000, 0xFF000000⟩
  | .reset    => ⟨0x20, 0x20000000, 0xFFFFFFFF⟩
  | .wake     => ⟨0x21, 0x21000000, 0xFFFFFFFF⟩
  | .setrange => ⟨0x22, 0x22000000, 0xFFFEFCFF⟩
  | .getrange => ⟨0x23, 0x23000000, 0xFFFEFFFF⟩
  | .init     => ⟨0x24, 0x24000000, 0xFFFFFFFF⟩
  | .start    => ⟨0x25, 0x25000000, 0xFFFFFFFF⟩
  | .stop     => ⟨0x26, 0x26000000, 0xFFFFFFFF⟩
  | .probe    => ⟨0x27, 0x27000000, 0xFFFFFFFF⟩
  | .chkid    => ⟨0x28, 0x28000000, 0xFFFFFFFF⟩
  | .rdtriple => ⟨0x30, 0x30000000, 0xFF00F0FF⟩
  | .getacc   => ⟨0x31, 0x31000000, 0xFFFFFFFF⟩
  | .getgyro  => ⟨0x32, 0x32000000, 0xFFFFFFFF⟩
  | .gettemp  => ⟨0x33, 0x33000000, 0xFFFFFFFF⟩

/-- Every row, in the table's order. -/
def allOps : List Op :=
  [.bind, .wrreg, .rdreg, .rmw, .reset, .wake, .setrange, .getrange, .init, .start, .stop, .probe, .chkid,
   .rdtriple, .getacc, .getgyro, .gettemp]

/-- `w[31:24]` (R90). -/
def opField (w : Word) : Byte := w.extractLsb' 24 8

/-- `w[23:16]` (R90). -/
def aField (w : Word) : Byte := w.extractLsb' 16 8

/-- `w[15:8]` (R90). -/
def bField (w : Word) : Byte := w.extractLsb' 8 8

/-- `w[7:0]` (R90). -/
def cField (w : Word) : Byte := w.extractLsb' 0 8

/-- The row whose opcode byte is `code` (R94). -/
def opOfCode (code : Byte) : Option Op := allOps.find? fun o => (opRow o).code == code

/-- The sensor of `a[0]` (R92, R95). -/
def sensorOfBit (b : BitVec 1) : Sensor := if b = 0 then .accel else .gyro

/-- The bit of a sensor (R95). -/
def sensorBit : Sensor → BitVec 1
  | .accel => 0
  | .gyro => 1

/-- The selector of a 4-bit code, none where the code is reserved (R96). -/
def selOfCode (code : BitVec 4) : Option ScaleSel :=
  if code = 0 then some (.cached .accel)
  else if code = 1 then some (.cached .gyro)
  else if code.toNat < 8 then none
  else if code.toNat < 12 then some (.table .accel (code.extractLsb' 0 2))
  else some (.table .gyro (code.extractLsb' 0 2))

/-- The 4-bit code of a selector (R96). -/
def selCode : ScaleSel → BitVec 4
  | .cached .accel => 0
  | .cached .gyro => 1
  | .table .accel r => 0b10#2 ++ r
  | .table .gyro r => 0b11#2 ++ r

/-- The operands of a word of the row `op`, and the row's value condition (R92, R94). -/
def operands (op : Op) (w : Word) : Except DecodeError Instr :=
  match op with
  | .bind => .ok (.bind ((aField w).extractLsb' 0 7) ((bField w).extractLsb' 0 2) ((cField w).extractLsb' 0 2))
  | .wrreg => .ok (.wrreg (aField w) (bField w))
  | .rdreg =>
    if countInRange ((bField w).extractLsb' 0 3) then .ok (.rdreg (aField w) ((bField w).extractLsb' 0 3))
    else .error .countOutOfRange
  | .rmw => .ok (.rmw (aField w) (bField w) (cField w))
  | .reset => .ok .reset
  | .wake => .ok .wake
  | .setrange => .ok (.setrange (sensorOfBit ((aField w).extractLsb' 0 1)) ((bField w).extractLsb' 0 2))
  | .getrange => .ok (.getrange (sensorOfBit ((aField w).extractLsb' 0 1)))
  | .init => .ok .init
  | .start => .ok .start
  | .stop => .ok .stop
  | .probe => .ok .probe
  | .chkid => .ok .chkid
  | .rdtriple =>
    match selOfCode ((bField w).extractLsb' 0 4) with
    | some sel => .ok (.rdtriple (aField w) sel)
    | none => .error .selReserved
  | .getacc => .ok .getacc
  | .getgyro => .ok .getgyro
  | .gettemp => .ok .gettemp

/-- Decode a command word: find its row, check the must-be-zero bits, then the value condition (R94). It reads
no state of the block. -/
def decode (w : Word) : Except DecodeError Instr :=
  match opOfCode (opField w) with
  | none => .error .unknownOpcode
  | some op => if w &&& (opRow op).mask = (opRow op).pattern then operands op w else .error .mustBeZero

/-- A word from its four byte fields (R90). -/
def wordOf (op a b c : Byte) : Word := op ++ a ++ b ++ c

/-- The row an instruction belongs to. -/
def instrOp : Instr → Op
  | .bind _ _ _ => .bind
  | .wrreg _ _ => .wrreg
  | .rdreg _ _ => .rdreg
  | .rmw _ _ _ => .rmw
  | .reset => .reset
  | .wake => .wake
  | .setrange _ _ => .setrange
  | .getrange _ => .getrange
  | .init => .init
  | .start => .start
  | .stop => .stop
  | .probe => .probe
  | .chkid => .chkid
  | .rdtriple _ _ => .rdtriple
  | .getacc => .getacc
  | .getgyro => .getgyro
  | .gettemp => .gettemp

/-- The command word of an instruction (R92, R99). -/
def encode (i : Instr) : Word :=
  let op := (opRow (instrOp i)).code
  match i with
  | .bind busaddr reqA reqG => wordOf op (0#1 ++ busaddr) (0#6 ++ reqA) (0#6 ++ reqG)
  | .wrreg addr byte => wordOf op addr byte 0
  | .rdreg addr count => wordOf op addr (0#5 ++ count) 0
  | .rmw addr maskClear bitsSet => wordOf op addr maskClear bitsSet
  | .reset => wordOf op 0 0 0
  | .wake => wordOf op 0 0 0
  | .setrange sensor r => wordOf op (0#7 ++ sensorBit sensor) (0#6 ++ r) 0
  | .getrange sensor => wordOf op (0#7 ++ sensorBit sensor) 0 0
  | .init => wordOf op 0 0 0
  | .start => wordOf op 0 0 0
  | .stop => wordOf op 0 0 0
  | .probe => wordOf op 0 0 0
  | .chkid => wordOf op 0 0 0
  | .rdtriple addr sel => wordOf op addr (0#4 ++ selCode sel) 0
  | .getacc => wordOf op 0 0 0
  | .getgyro => wordOf op 0 0 0
  | .gettemp => wordOf op 0 0 0

/-- The command word of the low `nbits` bits of `w`, every bit above them zero. The word is a plain integer at
the host port and has no byte order (20_memory.md R73). -/
def tableWord (nbits w : Nat) : Word := BitVec.ofNat 32 (w % 2 ^ nbits)

/-- What the decoder reads from an instruction numbered as the opcode table numbers its bits. -/
def decodeTableWord (nbits w : Nat) : Option Instr :=
  match decode (tableWord nbits w) with
  | .ok i => some i
  | .error _ => none

end Sys2Proof
end

