-- ==== Sys2Proof/Config.lean ====
section
/-! DEFINITION. What the environment may answer, the constants that an implementation fixes, and the free
values: the points 00_scope.md R5 and 92_eei_decisions.md D24 leave OPEN. -/

namespace Sys2Proof

/-- The kind of a BusError, as the adapter reports it (20_memory.md R64). -/
inductive BusErrorKind where
  | nack      -- 0: no ACK
  | timeout   -- 1
  | arbLost   -- 2: arbitration loss
  | other     -- 3: any transport failure the adapter does not classify
deriving DecidableEq, Repr, Inhabited

/-- The bytes an adapter can deliver in one transaction; a read of `n` bytes delivers the first `n`. Six is
the longest read of the block (R75). -/
abbrev Burst := Vector Byte 6

/-- What the environment answers to one bus transaction (R65). -/
inductive Reply where
  /-- The transaction succeeds. A read delivers these bytes where no reference device determines them. -/
  | ok (bytes : Burst)
  /-- The transaction fails with a BusError of this kind (R64). -/
  | error (kind : BusErrorKind)
  /-- The transaction never returns (60_exceptions.md R228; 93_implementation_defined.md U12), or block reset cuts it
  short. A write then reached the sensor or did not: the environment's choice (70_reset_and_hazards.md R241; log 14). -/
  | never (landed : Bool)
deriving DecidableEq, Repr, Inhabited

/-- FREE VALUE (log 3): the environment's answer to a bus transaction for which `Env.replies` names none. -/
opaque Config.freeReply : Nat → Reply

/-- FREE VALUE (log 3): the set a scan returns when `Env.scans` names none (R63, U10). -/
opaque Config.freeScan : Nat → ScanSet

/-- FREE VALUE (log 11): the bits hardware returns for a field that holds no value (R35, U8). -/
opaque Config.unspecifiedBits : Nat → Word

/-- OPEN parameter CLK_HZ (R5, D12): ticks per second of the settle timer; no rule depends on it (R256). -/
opaque Config.clkHz : Nat

end Sys2Proof
end

