-- ==== Sys2Proof/Machine/State.lean ====
section
/-! DEFINITION. Every piece of state of 10_state.md, the environment and the host port as plain data, the
reasons a step can stop, and the state after block reset (10_state.md R47). -/

namespace Sys2Proof.Machine

/-- LSTATE (R29); the unused codes 6 and 7 have no name (93_implementation_defined.md U9; log 10). -/
inductive LState where
  | unknown      -- 0
  | reset        -- 1
  | awake        -- 2
  | configured   -- 3
  | running      -- 4
  | stopped      -- 5
deriving DecidableEq, Repr

/-- The completion codes of CC (R31); codes 4 to 7 are never produced (U9; log 10). -/
inductive Completion where
  | ok           -- 0
  | busError     -- 1
  | illegalCmd   -- 2
  | noScale      -- 3
deriving DecidableEq, Repr

/-- The range cache and its flags for one sub-sensor (R23 to R26, R28). `none` is the spec's "no value"
(R36, U8; log 2). -/
structure RangeCache where
  /-- ACC_RANGE or GYR_RANGE (R23). -/
  range : Option RangeEnum
  /-- ACC_SCALE or GYR_SCALE, a DIV10 value (R24). -/
  scale : Option Div10
  /-- AVALID or GVALID (R26). -/
  valid : Bool
  /-- MISM_A or MISM_G (R28). -/
  mism : Bool
deriving DecidableEq, Repr

/-- The direction of a bus transaction: bit 4 of ERRINFO (R34). -/
inductive Direction where
  | read    -- 0
  | write   -- 1
deriving DecidableEq, Repr

/-- What a read transaction came to. -/
inductive ReadResult where
  | bytes (values : List Byte)
  | error (kind : BusErrorKind)
  | never
deriving DecidableEq, Repr

/-- What a write transaction came to. -/
inductive WriteResult where
  | ok
  | error (kind : BusErrorKind)
  | never
deriving DecidableEq, Repr

/-- One event of a bus trace (00_scope.md R14), with the bus device address the transaction carries (R21). -/
inductive BusEvent where
  | read (device : BusAddr) (addr : Byte) (count : Nat) (result : ReadResult)
  | write (device : BusAddr) (addr value : Byte) (result : WriteResult)
  | settle
  | scan (present : ScanSet)
deriving DecidableEq, Repr

/-- The sensor's register space as a list of (address, byte) pairs: addresses strictly rising, no entry equal
to what an unlisted address reads as (log 4). -/
abbrev Memory := List Host.Cell

/-- A function from `u2` to `u2` as plain data: entry `e` is the image of `e` (20_memory.md R85). -/
abbrev CoerceMap := Vector RangeEnum 4

/-- The device assumption under which the environment answers (R65). -/
inductive Device where
  /-- No assumption: every answer is the environment's (92_eei_decisions.md D24). -/
  | oracle
  /-- DEV_PLAIN: a 256-byte store (R84). -/
  | plain
  /-- DEV_COERCE(f, g): a store that coerces the range field of 0x1C by `f`, of 0x1B by `g` (R85). -/
  | coerce (f g : CoerceMap)
deriving DecidableEq, Repr

/-- The environment of the block (00_scope.md R13 c): the model's own fields, no register of the block. -/
structure Env where
  /-- The device assumption in force. -/
  device : Device
  /-- The register space of a reference device. -/
  sensor : Memory
  /-- The environment's answers to the coming transactions, the next one first. -/
  replies : List Reply
  /-- The sets the coming scans return, the next one first. -/
  scans : List ScanSet
  /-- How many free values have been drawn. -/
  drawn : Nat
deriving DecidableEq, Repr

/-- What the outside does at the block's host side (R35, R91; 70_reset_and_hazards.md R240). -/
inductive HostInput where
  /-- A write to a host index; index 0 presents a command word. -/
  | write (index : Nat) (value : Word)
  /-- A read of a host index. -/
  | read (index : Nat)
  /-- The block reset input is asserted. -/
  | blockReset
deriving DecidableEq, Repr

/-- The state of the machine: the registers of R20 first. -/
structure State where
  /-- BUS_ADDR (R21). -/
  busAddr : BusAddr
  /-- REQ_A (R22). -/
  reqA : RangeEnum
  /-- REQ_G (R22). -/
  reqG : RangeEnum
  /-- ACC_RANGE, ACC_SCALE, AVALID, MISM_A (R23 to R28). -/
  acc : RangeCache
  /-- GYR_RANGE, GYR_SCALE, GVALID, MISM_G (R23 to R28). -/
  gyr : RangeCache
  /-- RUN (R27). -/
  run : Bool
  /-- LSTATE (R29). -/
  lstate : LState
  /-- CC (R31). -/
  cc : Completion
  /-- ERRS (R32). -/
  errs : Bool
  /-- BUSY (R33). -/
  busy : Bool
  /-- ERRINFO (R34). -/
  errinfo : BitVec 16
  /-- RBUF[0..5] (R37). -/
  rbuf : Vector (Option Byte) 6
  /-- RLEN (R37). -/
  rlen : BitVec 3
  /-- RAW[0..2] (R38). -/
  raw : Vector (Option Sample) 3
  /-- OUT[0..2] (R39). -/
  out : Vector (Option Q16) 3
  /-- RES (R40). -/
  res : Option Byte
  /-- The settle timer, in ticks; 0 is idle (R43, R225). -/
  settleTimer : Nat
  /-- The bus trace of the last accepted command, oldest event first (R14); the model's own field (log 8). -/
  trace : List BusEvent
  /-- The environment (R13, R65); the model's own field (log 3). -/
  env : Env
  /-- What the outside does next, oldest first; the model's own field (log 7). -/
  inputs : List HostInput
  /-- What the last host read returned; the model's own field (log 11). -/
  hostData : Word
deriving DecidableEq, Repr

/-- Why a step has no next state. -/
inductive Fault where
  /-- Raised by `hostStep` and `hostWrite` in a state with BUSY = 1 when neither block reset nor a host register access is the
  next input: a transaction of the command in progress never returned, and "a model has no step out of that state"
  (60_exceptions.md R228; U12). Safe: the machine is stuck, and only the inputs the spec gives an effect lead on. -/
  | transactionNeverReturned
deriving DecidableEq, Repr

/-- Why a step is refused. -/
inductive Refusal where
  /-- Raised only by an arm of `exec` that has no meaning yet, with the instruction's mnemonic. Safe. -/
  | notModelled (mnemonic : String)
deriving DecidableEq, Repr

/-- A cache that holds no value (R26: "When a bit is 0 the matching range and scale registers hold no value"). -/
def RangeCache.empty : RangeCache := { range := none, scale := none, valid := false, mism := false }

/-- The environment of the reset state: no device assumption and nothing chosen (log 3). -/
def Env.start : Env := { device := .oracle, sensor := [], replies := [], scans := [], drawn := 0 }

/-- The machine right after block reset (R47). -/
def State.reset : State where
  busAddr := 0x68
  reqA := 0
  reqG := 0
  acc := RangeCache.empty
  gyr := RangeCache.empty
  run := false
  lstate := .unknown
  cc := .ok
  errs := false
  busy := false
  errinfo := 0
  rbuf := #v[none, none, none, none, none, none]
  rlen := 0
  raw := #v[none, none, none]
  out := #v[none, none, none]
  res := none
  settleTimer := 0
  trace := []
  env := Env.start
  inputs := []
  hostData := 0

end Sys2Proof.Machine
end

