-- ==== Sys2Proof/Machine/Operands.lean ====
section
/-! DEFINITION. Operand mappings, register addresses, scale tables and the exact arithmetic of the decoder
(30_encoding.md R95, R96; 20_memory.md R66 to R69; 10_state.md R24; 42_measurement.md R180 to R186). -/

namespace Sys2Proof.Machine

/-- GYRO_CONFIG (R66). -/
def gyroConfig : Byte := 0x1B
/-- ACCEL_CONFIG (R66). -/
def accelConfig : Byte := 0x1C
/-- ACCEL_DATA (R66). -/
def accelData : Byte := 0x3B
/-- TEMP_DATA (R66). -/
def tempData : Byte := 0x41
/-- GYRO_DATA (R66). -/
def gyroData : Byte := 0x43
/-- PWR_MGMT_1 (R66). -/
def pwrMgmt1 : Byte := 0x6B
/-- DEVICE_ID (R66). -/
def deviceId : Byte := 0x75
/-- DEVICE_ID_EXPECTED (R5). -/
def deviceIdExpected : Byte := 0x68
/-- RESET_BIT of PWR_MGMT_1 (R67). -/
def resetBit : Byte := 0x80
/-- SLEEP_BIT of PWR_MGMT_1 (R67). -/
def sleepBit : Byte := 0x40
/-- The byte WAKE writes (R146). -/
def wakeByte : Byte := 0x01
/-- RANGE_MASK (R68, R69). -/
def rangeMask : Byte := 0x18

/-- `cfgaddr(sensor)` (R95). -/
def cfgAddr : Sensor → Byte
  | .accel => accelConfig
  | .gyro => gyroConfig

/-- `r << 3` as a byte (R95). -/
def rangeBits (r : RangeEnum) : Byte := r.setWidth 8 <<< 3

/-- `v[4:3]`, that is `(bit4 << 1) | bit3` (41_state_machine.md R147). -/
def rangeField (v : Byte) : RangeEnum := v.extractLsb' 3 2

/-- `(old & ~mask_clear) | bits_set` (00_scope.md R8). -/
def rmwByte (old maskClear bitsSet : Byte) : Byte := (old &&& ~~~maskClear) ||| bitsSet

/-- ACC_TABLE, the DIV10 column of the accelerometer (R24). -/
def accTable (e : RangeEnum) : Div10 :=
  if e = 0 then 163840 else if e = 1 then 81920 else if e = 2 then 40960 else 20480

/-- GYR_TABLE, the DIV10 column of the gyroscope (R24). -/
def gyrTable (e : RangeEnum) : Div10 :=
  if e = 0 then 1310 else if e = 1 then 655 else if e = 2 then 328 else 164

/-- The DIV10 table of a sub-sensor (R24, R95). -/
def scaleTable : Sensor → RangeEnum → Div10
  | .accel => accTable
  | .gyro => gyrTable

/-- The cache registers of a sub-sensor (R95). -/
def State.cache (s : State) : Sensor → RangeCache
  | .accel => s.acc
  | .gyro => s.gyr

/-- Write the cache registers of a sub-sensor (R95). -/
def State.setCache (s : State) (sensor : Sensor) (c : RangeCache) : State :=
  match sensor with
  | .accel => { s with acc := c }
  | .gyro => { s with gyr := c }

/-- The DIV10 value a selector names, none where the valid bit it needs is 0 (30_encoding.md R96;
42_measurement.md R188). With the valid bit 1 and no scale, which no run reaches (R26), there is none either
(log 15). -/
def scaleOf (s : State) : ScaleSel → Option Div10
  | .cached sensor => if (s.cache sensor).valid then (s.cache sensor).scale else none
  | .table sensor r => some (scaleTable sensor r)

/-- `decode16(hi, lo)`: big-endian, the two's complement pattern of the sample (R180). -/
def decode16 (hi lo : Byte) : Sample := hi ++ lo

/-- `encode16(v)`: the byte pair of a sample (R181). The block never encodes. -/
def encode16 (v : Sample) : Byte × Byte := (v.extractLsb' 8 8, v.extractLsb' 0 8)

/-- `rn(N, D) = floor((2*N + D) / (2*D))` for `D > 0` (00_scope.md R10). -/
def rn (n d : Int) : Int := (2 * n + d) / (2 * d)

/-- `q16(raw, d)` as an exact integer (R183). -/
def q16Int (raw : Sample) (d : Div10) : Int := rn (raw.toInt * 655360) d.toNat

/-- `q16(raw, d)` as OUT holds it (R183, R39); it fits 32 bits for every table entry (R184). -/
def q16 (raw : Sample) (d : Div10) : Q16 := BitVec.ofInt 32 (q16Int raw d)

/-- `qtemp(raw)` as an exact integer (R186). -/
def qtempInt (raw : Sample) : Int := rn ((5 * raw.toInt + 62101) * 65536) 1700

/-- `qtemp(raw)` as OUT holds it (R186, R39). -/
def qtemp (raw : Sample) : Q16 := BitVec.ofInt 32 (qtempInt raw)

end Sys2Proof.Machine
end

