-- ==== Sys2Proof/Machine/Flags.lean ====
section
/-! DEFINITION. The status computations: the codes of LSTATE, CC and ERRINFO, the next-state function of LSTATE
(41_state_machine.md R141) and the packed registers of the host view (10_state.md R34, R35). -/

namespace Sys2Proof.Machine

/-- A status bit of the host view. -/
def bit (b : Bool) : BitVec 1 := if b then 1 else 0

/-- The LSTATE code (R29). -/
def lstateCode : LState → BitVec 3
  | .unknown => 0
  | .reset => 1
  | .awake => 2
  | .configured => 3
  | .running => 4
  | .stopped => 5

/-- The CC code (R31). -/
def completionCode : Completion → BitVec 3
  | .ok => 0
  | .busError => 1
  | .illegalCmd => 2
  | .noScale => 3

/-- The KIND code of ERRINFO (R34, R64). -/
def kindCode : BusErrorKind → BitVec 2
  | .nack => 0
  | .timeout => 1
  | .arbLost => 2
  | .other => 3

/-- The DIR bit of ERRINFO (R34). -/
def directionBit : Direction → BitVec 1
  | .read => 0
  | .write => 1

/-- ERRINFO of a failed transaction: FADDR at 15:8, 7 zero, KIND at 6:5, DIR at 4, STEP at 3:0 (R34). -/
def errinfoWord (step : Nat) (dir : Direction) (addr : Byte) (kind : BusErrorKind) : BitVec 16 :=
  addr ++ (0#1 ++ (kindCode kind ++ (directionBit dir ++ BitVec.ofNat 4 step)))

/-- LSTATE after a WAKE that completes OK (R141, R146). -/
def lstateAfterWake (l : LState) : LState := if l = .reset then .awake else .unknown

/-- LSTATE after a range-set operation that completes its read-back, with both valid bits as they then are
(R141, R148). -/
def lstateAfterRangeSet (l : LState) (avalid gvalid : Bool) : LState :=
  if l = .awake ∧ avalid = true ∧ gvalid = true then .configured else l

/-- LSTATE is one of CONFIGURED, RUNNING, STOPPED. -/
def LState.isConfigured : LState → Bool
  | .configured => true
  | .running => true
  | .stopped => true
  | .unknown => false
  | .reset => false
  | .awake => false

/-- LSTATE after a START that completes OK (R141, R153). -/
def lstateAfterStart (l : LState) : LState := if l.isConfigured then .running else .unknown

/-- LSTATE after a STOP that completes OK (R141, R154). -/
def lstateAfterStop (l : LState) : LState := if l.isConfigured then .stopped else .unknown

/-- STATUS, bits 15 to 0 (R35). -/
def statusWord (s : State) : BitVec 16 :=
  0#1 ++ (completionCode s.cc ++ (0#1 ++ (lstateCode s.lstate ++ (0#1 ++ (bit s.gyr.mism ++ (bit s.acc.mism ++
    (bit s.gyr.valid ++ (bit s.acc.valid ++ (bit s.errs ++ (bit s.run ++ bit s.busy))))))))))

/-- CFG, bits 15 to 0 (R35). -/
def cfgWord (s : State) : BitVec 16 := 0#4 ++ (s.reqG ++ (s.reqA ++ (0#1 ++ s.busAddr)))

/-- The bits a field shows at the host port: its value, or the bits `u` where it holds none (R35, U8). -/
def shown {w : Nat} (field : Option (BitVec w)) (u : Word) : BitVec w := field.getD (u.setWidth w)

/-- RANGE, bits 7 to 0 (R35); a range without a value shows bits of `u`. -/
def rangeWord (s : State) (u : Word) : Byte :=
  0#4 ++ (shown s.gyr.range (u >>> 2) ++ shown s.acc.range u)

/-- What a host read of an index returns while the read is allowed, with `u` the unspecified bits of fields
that hold no value (R35). Bits above a register's layout read 0 (log 11). -/
def hostWord (s : State) (u : Word) (index : Nat) : Word :=
  match index with
  | 0x01 => (statusWord s).setWidth 32
  | 0x02 => (cfgWord s).setWidth 32
  | 0x03 => (rangeWord s u).setWidth 32
  | 0x04 => (shown s.acc.scale u).setWidth 32
  | 0x05 => (shown s.gyr.scale u).setWidth 32
  | 0x06 => s.errinfo.setWidth 32
  | 0x07 => (shown s.res u).setWidth 32
  | 0x08 => s.rlen.setWidth 32
  | 0x10 => (shown s.rbuf[0] u).setWidth 32
  | 0x11 => (shown s.rbuf[1] u).setWidth 32
  | 0x12 => (shown s.rbuf[2] u).setWidth 32
  | 0x13 => (shown s.rbuf[3] u).setWidth 32
  | 0x14 => (shown s.rbuf[4] u).setWidth 32
  | 0x15 => (shown s.rbuf[5] u).setWidth 32
  | 0x18 => (shown s.raw[0] u).setWidth 32
  | 0x19 => (shown s.raw[1] u).setWidth 32
  | 0x1A => (shown s.raw[2] u).setWidth 32
  | 0x1C => shown s.out[0] u
  | 0x1D => shown s.out[1] u
  | 0x1E => shown s.out[2] u
  | _ => 0

end Sys2Proof.Machine
end

