-- ==== Sys2Proof/Machine/Ops.lean ====
section
/-! DEFINITION. The named operations: the sensor's register space, the environment, the bus primitives of
00_scope.md R11, acceptance, completion and abort (60_exceptions.md R210, R219), and the helpers the commands
share (40_register_access.md R123, R124; 41_state_machine.md R147, R148). -/

namespace Sys2Proof.Machine

/-! ### The sensor's register space (R60, R84) -/

/-- What an address that memory does not list reads as (log 4). -/
def unlistedByte : Byte := 0

/-- The byte at a register address. -/
def memByte : Memory → Nat → Byte
  | [], _ => unlistedByte
  | (k, b) :: rest, a => if a = k then b else memByte rest a

/-- Store a byte, keeping the canonical form. -/
def memStore : Memory → Nat → Byte → Memory
  | [], a, b => if b = unlistedByte then [] else [(a, b)]
  | (k, c) :: rest, a, b =>
    if a < k then (if b = unlistedByte then (k, c) :: rest else (a, b) :: (k, c) :: rest)
    else if a = k then (if b = unlistedByte then rest else (a, b) :: rest)
    else (k, c) :: memStore rest a b

/-- The canonical form above a lower bound: addresses strictly rising and below 256, no unlisted byte stored. -/
def memWfFrom : Nat → Memory → Bool
  | _, [] => true
  | low, (k, b) :: rest => decide (low ≤ k) && decide (k < 256) && decide (b ≠ unlistedByte) && memWfFrom (k + 1) rest

/-- The canonical form of memory. -/
def Memory.wf (m : Memory) : Bool := memWfFrom 0 m

/-! ### The environment (R65, R84, R85) -/

/-- The environment's next answer to a transaction: scripted, else a free value (log 3). -/
def nextReply (e : Env) : Reply × Env :=
  match e.replies with
  | r :: rest => (r, { e with replies := rest })
  | [] => (Config.freeReply e.drawn, { e with drawn := e.drawn + 1 })

/-- The set the next scan returns: scripted, else a free value (R63; log 3). -/
def nextScan (e : Env) : ScanSet × Env :=
  match e.scans with
  | p :: rest => (p, { e with scans := rest })
  | [] => (Config.freeScan e.drawn, { e with drawn := e.drawn + 1 })

/-- The byte written to a register of DEV_COERCE(f, g) as the device stores it (R85). -/
def coercedByte (f g : CoerceMap) (addr v : Byte) : Byte :=
  if addr = accelConfig then rmwByte v rangeMask (rangeBits (f[(rangeField v).toNat]'(rangeField v).isLt))
  else if addr = gyroConfig then rmwByte v rangeMask (rangeBits (g[(rangeField v).toNat]'(rangeField v).isLt))
  else v

/-- What a successful write does to the device behind the bus (R84, R85). -/
def deviceWrite (e : Env) (addr v : Byte) : Env :=
  match e.device with
  | .oracle => e
  | .plain => { e with sensor := memStore e.sensor addr.toNat v }
  | .coerce f g => { e with sensor := memStore e.sensor addr.toNat (coercedByte f g addr v) }

/-- What a write that never returned, or that block reset cut short, did to the device: it reached the device or it
did not, as the environment chose (70_reset_and_hazards.md R241; log 14). -/
def deviceCutWrite (landed : Bool) (e : Env) (addr v : Byte) : Env :=
  if landed then deviceWrite e addr v else e

/-- The bytes a reference device returns from `addr` on; past 0xFF, outside its assumption, the bytes are the
environment's (R84, U11; log 5). -/
def storedBurst (m : Memory) (addr : Byte) (free : Burst) : Burst :=
  Vector.ofFn fun i : Fin 6 =>
    if addr.toNat + i.val < 256 then memByte m (addr.toNat + i.val) else free[i]

/-- The bytes a successful read delivers (R62, R65, R84). -/
def deviceRead (e : Env) (addr : Byte) (free : Burst) : Burst :=
  match e.device with
  | .oracle => free
  | .plain => storedBurst e.sensor addr free
  | .coerce _ _ => storedBurst e.sensor addr free

/-! ### Completion and abort (R210, R219) -/

/-- The result registers come to hold no value (10_state.md R36). -/
def invalidateResults (s : State) : State :=
  { s with
    rbuf := #v[none, none, none, none, none, none]
    rlen := 0
    raw := #v[none, none, none]
    out := #v[none, none, none]
    res := none }

/-- Acceptance of a command word (30_encoding.md R91): BUSY, and the results without value; a new bus trace
begins (R14). -/
def accept (s : State) : State := { invalidateResults s with busy := true, trace := [] }

/-- `complete(code)` with the failure detail `info`, zero unless the code is BUS_ERROR (R210). -/
def complete (code : Completion) (info : BitVec 16) (s : State) : State :=
  { s with
    cc := code
    errs := s.errs || decide (code ≠ .ok)
    errinfo := info
    busy := false }

/-- A read or a write: what STEP of ERRINFO counts (R34). -/
def BusEvent.isTransaction : BusEvent → Bool
  | .read _ _ _ _ => true
  | .write _ _ _ _ => true
  | .settle => false
  | .scan _ => false

/-- How many transactions a trace holds (R34). -/
def transactions (t : List BusEvent) : Nat := t.countP BusEvent.isTransaction

/-- A failed transaction (R219). -/
structure Failure where
  step : Nat
  dir : Direction
  addr : Byte
  kind : BusErrorKind
deriving DecidableEq, Repr

/-- The abort of a command, the block's exception entry (R219): LSTATE to UNKNOWN, ERRINFO, then `complete`. -/
def abort (f : Failure) (s : State) : State :=
  complete .busError (errinfoWord f.step f.dir f.addr f.kind) { s with lstate := .unknown }

/-- An illegal command word (30_encoding.md R97; 60_exceptions.md R212). -/
def illegalCommand (s : State) : State := complete .illegalCmd 0 (accept s)

/-! ### The run of a command -/

/-- Where a command stands after some of its primitives. -/
inductive Flow (α : Type) where
  /-- It goes on, with a value. -/
  | go (a : α) (s : State)
  /-- It completes NO_SCALE (R213). -/
  | noScale (s : State)
  /-- A transaction failed (R219). -/
  | busError (f : Failure) (s : State)
  /-- A transaction never returned (R228). -/
  | hung (s : State)

/-- Sequencing: what follows runs only while the command goes on (41_state_machine.md R142). -/
def Flow.andThen {α β : Type} (r : Flow α) (next : α → State → Flow β) : Flow β :=
  match r with
  | .go a s => next a s
  | .noScale s => .noScale s
  | .busError f s => .busError f s
  | .hung s => .hung s

/-- The end of a command (R210, R213, R219). A hung command does not complete: BUSY stays 1 (R228; log 1). -/
def finish (r : Flow Unit) : State :=
  match r with
  | .go _ s => complete .ok 0 s
  | .noScale s => complete .noScale 0 s
  | .busError f s => abort f s
  | .hung s => s

/-- One complete command: acceptance, its body, its end (00_scope.md R14). -/
def runCommand (body : State → Flow Unit) (s : State) : State := finish (body (accept s))

/-! ### Bus primitives (R11) -/

/-- Append an event to the bus trace (R14). -/
def State.record (s : State) (e : BusEvent) : State := { s with trace := s.trace ++ [e] }

/-- The settle timer's load, `ceil(SETTLE_MS * CLK_HZ / 1000)` ticks with SETTLE_MS = 50 (R43, R225). -/
def settleTicks : Nat := (50 * Config.clkHz + 999) / 1000

/-- The timer starts (R225). -/
def startSettle (s : State) : State := { s with settleTimer := settleTicks }

/-- The timer has run down: the wait is over and recorded (R43, R225). -/
def endSettle (s : State) : State := { s with settleTimer := 0 }.record .settle

/-- `Settle()`: the 50 ms wait, with no bus activity (R11, R225; log 9). -/
def settle (s : State) : State := endSettle (startSettle s)

/-- `MemRead(addr, n)`: one read transaction, without a settle (R11, R62). -/
def memRead (addr : Byte) (n : Nat) (s : State) : Flow Burst :=
  match nextReply s.env with
  | (.ok free, env) =>
    .go (deviceRead env addr free)
      ({ s with env := env }.record (.read s.busAddr addr n (.bytes ((deviceRead env addr free).toList.take n))))
  | (.error kind, env) =>
    .busError ⟨transactions s.trace, .read, addr, kind⟩
      ({ s with env := env }.record (.read s.busAddr addr n (.error kind)))
  | (.never _, env) => .hung ({ s with env := env }.record (.read s.busAddr addr n .never))

/-- `MemWrite(addr, 1, v)`: one write transaction of one byte, then the settle wait when it succeeded (R11,
R61, R79). -/
def memWrite (addr v : Byte) (s : State) : Flow Unit :=
  match nextReply s.env with
  | (.ok _, env) => .go () (settle ({ s with env := deviceWrite env addr v }.record (.write s.busAddr addr v .ok)))
  | (.error kind, env) =>
    .busError ⟨transactions s.trace, .write, addr, kind⟩
      ({ s with env := env }.record (.write s.busAddr addr v (.error kind)))
  | (.never landed, env) =>
    .hung ({ s with env := deviceCutWrite landed env addr v }.record (.write s.busAddr addr v .never))

/-- `BusScan()`: the set of addresses present; it cannot fail (R11, R63). -/
def busScan (s : State) : Flow ScanSet :=
  .go (nextScan s.env).1 ({ s with env := (nextScan s.env).2 }.record (.scan (nextScan s.env).1))

/-! ### Helpers of the commands -/

/-- `rmw(addr, mask_clear, bits_set)`: a read, then a write of the changed byte (R123). -/
def rmw (addr maskClear bitsSet : Byte) (s : State) : Flow Unit :=
  (memRead addr 1 s).andThen fun old s => memWrite addr (rmwByte old[0] maskClear bitsSet) s

/-- A sub-sensor's cache loses its value: valid and mismatch bits 0, range and scale without value (R26, R28). -/
def dropCache (sensor : Sensor) (s : State) : State := s.setCache sensor RangeCache.empty

/-- Both caches lose their values (R26). -/
def dropCaches (s : State) : State := dropCache .gyro (dropCache .accel s)

/-- `managed_write_effects(addr)` of the raw writes, register by register (R124). -/
def managedWriteEffects (addr : Byte) (s : State) : State :=
  { s with
    acc := if addr = accelConfig ∨ addr = pwrMgmt1 then RangeCache.empty else s.acc
    gyr := if addr = gyroConfig ∨ addr = pwrMgmt1 then RangeCache.empty else s.gyr
    lstate := if addr = gyroConfig ∨ addr = accelConfig ∨ addr = pwrMgmt1 then .unknown else s.lstate }

/-- `get_range_op(sensor)` (R147). -/
def getRangeOp (sensor : Sensor) (s : State) : Flow RangeEnum :=
  (memRead (cfgAddr sensor) 1 s).andThen fun v s => .go (rangeField v[0]) s

/-- The cache after a range-set operation that asked for `r` and read back `e` (R25, R28, R148). -/
def readBackCache (sensor : Sensor) (r e : RangeEnum) : RangeCache :=
  { range := some e, scale := some (scaleTable sensor e), valid := true, mism := decide (e ≠ r) }

/-- The stores of a range-set operation after its read-back (R148). -/
def storeReadBack (sensor : Sensor) (r e : RangeEnum) (s : State) : State :=
  let s := s.setCache sensor (readBackCache sensor r e)
  { s with lstate := lstateAfterRangeSet s.lstate s.acc.valid s.gyr.valid }

/-- `set_range_op(sensor, r)`: read-modify-write, then the authoritative read-back (R148). -/
def setRangeOp (sensor : Sensor) (r : RangeEnum) (s : State) : Flow RangeEnum :=
  (rmw (cfgAddr sensor) rangeMask (rangeBits r) (dropCache sensor s)).andThen fun _ s =>
  (getRangeOp sensor s).andThen fun e s => .go e (storeReadBack sensor r e s)

/-- The scalar result (R40). -/
def setRes (v : Byte) (s : State) : State := { s with res := some v }

/-- RBUF[0..n-1] and RLEN after a read of `n` bytes (R37). -/
def setRbuf (n : Nat) (b : Burst) (s : State) : State :=
  { s with
    rbuf := Vector.ofFn fun i : Fin 6 => if i.val < n then some b[i] else none
    rlen := BitVec.ofNat 3 n }

/-- Block reset (70_reset_and_hazards.md R240, R241): every register to its reset value; the environment, the
host's remaining inputs and the host's last read are not the block's (log 13). -/
def blockReset (s : State) : State :=
  { State.reset with env := s.env, inputs := s.inputs, hostData := s.hostData }

end Sys2Proof.Machine
end

