-- ==== Sys2Proof/Machine/Measurement.lean ====
section
/-! DEFINITION. The measurement decoder commands RDTRIPLE, GETACC, GETGYRO and GETTEMP (42_measurement.md). -/

namespace Sys2Proof.Machine

/-- `need_scale(sel)`: the DIV10 value, or the end of the command with NO_SCALE, before any bus activity (R188). -/
def needScale (sel : ScaleSel) (s : State) : Flow Div10 :=
  match scaleOf s sel with
  | some d => .go d s
  | none => .noScale s

/-- RBUF, RLEN, RAW and OUT after a six-byte burst scaled by `d` (R180, R183, R189). -/
def storeTriple (d : Div10) (b : Burst) (s : State) : State :=
  let x := decode16 b[0] b[1]
  let y := decode16 b[2] b[3]
  let z := decode16 b[4] b[5]
  { setRbuf 6 b s with
    raw := #v[some x, some y, some z]
    out := #v[some (q16 x d), some (q16 y d), some (q16 z d)] }

/-- The body of `read_triple(data_register, scale_divisor)` (R189). -/
def readTriple (addr : Byte) (sel : ScaleSel) (s : State) : Flow Unit :=
  (needScale sel s).andThen fun d s =>
  (memRead addr 6 s).andThen fun b s => .go () (storeTriple d b s)

/-- RBUF, RLEN, RAW[0] and OUT[0] after the two-byte temperature burst (R186, R192). -/
def storeTemperature (b : Burst) (s : State) : State :=
  let t := decode16 b[0] b[1]
  { setRbuf 2 b s with raw := #v[some t, none, none], out := #v[some (qtemp t), none, none] }

/-- RDTRIPLE addr, sel (R189). -/
def execRdtriple (addr : Byte) (sel : ScaleSel) (s : State) : Host.Outcome State Fault Refusal :=
  .next (runCommand (readTriple addr sel) s)

/-- GETACC: RDTRIPLE 0x3B, ACC (R190). -/
def execGetacc (s : State) : Host.Outcome State Fault Refusal :=
  .next (runCommand (readTriple accelData (.cached .accel)) s)

/-- GETGYRO: RDTRIPLE 0x43, GYR (R191). -/
def execGetgyro (s : State) : Host.Outcome State Fault Refusal :=
  .next (runCommand (readTriple gyroData (.cached .gyro)) s)

/-- GETTEMP (R192). -/
def execGettemp (s : State) : Host.Outcome State Fault Refusal :=
  .next (runCommand (fun s => (memRead tempData 2 s).andThen fun b s => .go () (storeTemperature b s)) s)

end Sys2Proof.Machine
end

