-- ==== Sys2Proof/Machine/RegisterAccess.lean ====
section
/-! DEFINITION. The register access commands WRREG, RDREG and RMW (40_register_access.md). -/

namespace Sys2Proof.Machine

/-- WRREG addr, byte (R120). -/
def execWrreg (addr byte : Byte) (s : State) : Host.Outcome State Fault Refusal :=
  .next (runCommand (fun s => memWrite addr byte (managedWriteEffects addr s)) s)

/-- RDREG addr, count (R121); counts 0 and 7 are no legal command (R97; log 17). -/
def execRdreg (addr : Byte) (count : BitVec 3) (s : State) : Host.Outcome State Fault Refusal :=
  .next (if countInRange count then
    runCommand (fun s => (memRead addr count.toNat s).andThen fun b s => .go () (setRbuf count.toNat b s)) s
  else illegalCommand s)

/-- RMW addr, mask_clear, bits_set (R122). -/
def execRmw (addr maskClear bitsSet : Byte) (s : State) : Host.Outcome State Fault Refusal :=
  .next (runCommand (fun s => rmw addr maskClear bitsSet (managedWriteEffects addr s)) s)

end Sys2Proof.Machine
end

