-- ==== Sys2Proof/Machine/StateMachine.lean ====
section
/-! DEFINITION. The device state machine commands BIND, RESET, WAKE, SETRANGE, GETRANGE, INIT, START, STOP,
PROBE and CHKID (41_state_machine.md). -/

namespace Sys2Proof.Machine

/-- The registers BIND writes (R143). -/
def bindRegisters (busaddr : BusAddr) (reqA reqG : RangeEnum) (s : State) : State :=
  { dropCaches s with busAddr := busaddr, reqA := reqA, reqG := reqG, run := false, lstate := .unknown }

/-- BIND busaddr, req_a, req_g: the one command that clears ERRS (R143). -/
def execBind (busaddr : BusAddr) (reqA reqG : RangeEnum) (s : State) : Host.Outcome State Fault Refusal :=
  .next { runCommand (fun s => .go () (bindRegisters busaddr reqA reqG s)) s with errs := false }

/-- The body of RESET without its `complete` (R145, R152). -/
def resetBody (s : State) : Flow Unit :=
  (rmw pwrMgmt1 0x00 resetBit (dropCaches s)).andThen fun _ s => .go () { s with lstate := .reset }

/-- The body of WAKE without its `complete` (R146, R152). -/
def wakeBody (s : State) : Flow Unit :=
  (memWrite pwrMgmt1 wakeByte s).andThen fun _ s => .go () { s with lstate := lstateAfterWake s.lstate }

/-- RESET (R145). -/
def execReset (s : State) : Host.Outcome State Fault Refusal := .next (runCommand resetBody s)

/-- WAKE (R146). -/
def execWake (s : State) : Host.Outcome State Fault Refusal := .next (runCommand wakeBody s)

/-- SETRANGE sensor, r (R149). -/
def execSetrange (sensor : Sensor) (r : RangeEnum) (s : State) : Host.Outcome State Fault Refusal :=
  .next (runCommand (fun s => (setRangeOp sensor r s).andThen fun e s => .go () (setRes (e.setWidth 8) s)) s)

/-- GETRANGE sensor (R150). -/
def execGetrange (sensor : Sensor) (s : State) : Host.Outcome State Fault Refusal :=
  .next (runCommand (fun s => (getRangeOp sensor s).andThen fun e s => .go () (setRes (e.setWidth 8) s)) s)

/-- The body of INIT: RESET, WAKE, then both range-set operations with the requested ranges (R152). -/
def initBody (s : State) : Flow Unit :=
  (resetBody s).andThen fun _ s =>
  (wakeBody s).andThen fun _ s =>
  (setRangeOp .accel s.reqA s).andThen fun _ s =>
  (setRangeOp .gyro s.reqG s).andThen fun _ s => .go () s

/-- INIT (R152). -/
def execInit (s : State) : Host.Outcome State Fault Refusal := .next (runCommand initBody s)

/-- START (R153). -/
def execStart (s : State) : Host.Outcome State Fault Refusal :=
  .next (runCommand (fun s => (rmw pwrMgmt1 sleepBit 0x00 s).andThen fun _ s =>
    .go () { s with run := true, lstate := lstateAfterStart s.lstate }) s)

/-- STOP (R154). -/
def execStop (s : State) : Host.Outcome State Fault Refusal :=
  .next (runCommand (fun s => (rmw pwrMgmt1 0x00 sleepBit s).andThen fun _ s =>
    .go () { s with run := false, lstate := lstateAfterStop s.lstate }) s)

/-- PROBE: is BUS_ADDR in the set the scan returns (R157)? -/
def execProbe (s : State) : Host.Outcome State Fault Refusal :=
  .next (runCommand (fun s => (busScan s).andThen fun present s =>
    .go () (setRes (if present.getLsbD s.busAddr.toNat then 1 else 0) s)) s)

/-- CHKID: does register 0x75 read the constant 0x68 (R158)? -/
def execChkid (s : State) : Host.Outcome State Fault Refusal :=
  .next (runCommand (fun s => (memRead deviceId 1 s).andThen fun v s =>
    .go () (setRes (if v[0] = deviceIdExpected then 1 else 0) s)) s)

end Sys2Proof.Machine
end

