-- ==== Sys2Proof/Machine/Dispatch.lean ====
section
/-! DEFINITION. The dispatch of a command to its meaning, one arm per constructor (30_encoding.md R94). -/

namespace Sys2Proof.Machine

def exec (i : Instr) (s : State) : Host.Outcome State Fault Refusal :=
  match i with
  | .bind busaddr reqA reqG => Sys2Proof.Machine.execBind busaddr reqA reqG s
  | .wrreg addr byte => Sys2Proof.Machine.execWrreg addr byte s
  | .rdreg addr count => Sys2Proof.Machine.execRdreg addr count s
  | .rmw addr maskClear bitsSet => Sys2Proof.Machine.execRmw addr maskClear bitsSet s
  | .reset => Sys2Proof.Machine.execReset s
  | .wake => Sys2Proof.Machine.execWake s
  | .setrange sensor r => Sys2Proof.Machine.execSetrange sensor r s
  | .getrange sensor => Sys2Proof.Machine.execGetrange sensor s
  | .init => Sys2Proof.Machine.execInit s
  | .start => Sys2Proof.Machine.execStart s
  | .stop => Sys2Proof.Machine.execStop s
  | .probe => Sys2Proof.Machine.execProbe s
  | .chkid => Sys2Proof.Machine.execChkid s
  | .rdtriple addr sel => Sys2Proof.Machine.execRdtriple addr sel s
  | .getacc => Sys2Proof.Machine.execGetacc s
  | .getgyro => Sys2Proof.Machine.execGetgyro s
  | .gettemp => Sys2Proof.Machine.execGettemp s

end Sys2Proof.Machine
end

