-- ==== Sys2Proof/Machine/HostPort.lean ====
section
/-! DEFINITION. The host side of the block: the command port (30_encoding.md R91), the host register view
(10_state.md R35), the block reset input (70_reset_and_hazards.md R240), and the reference host of command
lists (10_state.md R42). -/

namespace Sys2Proof.Machine

/-- The index of CMD (R35). -/
def cmdIndex : Nat := 0x00

/-- An accepted command word: decoded, then executed, or completed as illegal (R91, R94, R97, R212). -/
def issueWord (w : Word) (s : State) : Host.Outcome State Fault Refusal :=
  match decode w with
  | .ok i => exec i s
  | .error _ => .next (illegalCommand s)

/-- A host write: CMD issues a command while BUSY = 0; every other write is ignored (R35). While BUSY = 1 in a
state between steps a transaction never returned, and the port holds the host off for ever (R91, R228; log 1). -/
def hostWrite (index : Nat) (value : Word) (s : State) : Host.Outcome State Fault Refusal :=
  if index = cmdIndex then
    if s.busy then .fault .transactionNeverReturned else issueWord value s
  else .next s

/-- An index of the map that is neither CMD nor STATUS (R35). -/
def readsWhenIdle (index : Nat) : Bool :=
  decide (0x02 ≤ index ∧ index ≤ 0x08) || decide (0x10 ≤ index ∧ index ≤ 0x15) ||
    decide (0x18 ≤ index ∧ index ≤ 0x1A) || decide (0x1C ≤ index ∧ index ≤ 0x1E)

/-- The bits a host read returns (R35). The host may read a register other than STATUS only while BUSY = 0; a
read made while BUSY = 1 returns unspecified bits (log 12). -/
def hostReadBits (index : Nat) (u : Word) (s : State) : Word :=
  if s.busy && readsWhenIdle index then u else hostWord s u index

/-- A host read: it changes no register of the block (R35). -/
def hostRead (index : Nat) (s : State) : State :=
  { s with
    hostData := hostReadBits index (Config.unspecifiedBits s.env.drawn) s
    env := { s.env with drawn := s.env.drawn + 1 } }

/-- The next host input, taken from the head of `inputs`. Without one the idle block waits (R243), and a block
with BUSY = 1 is stuck (R228; log 1, log 7). -/
def hostStep (s : State) : Host.Outcome State Fault Refusal :=
  match s.inputs with
  | [] => if s.busy then .fault .transactionNeverReturned else .next s
  | .write index value :: rest => hostWrite index value { s with inputs := rest }
  | .read index :: rest => .next (hostRead index { s with inputs := rest })
  | .blockReset :: rest => .next (blockReset { s with inputs := rest })

/-- Present an instruction word to the idle block as the host's next input. -/
def presentWord (w : Word) (s : State) : State :=
  { s with busy := false, inputs := .write cmdIndex w :: s.inputs }

/-- The reference host of R42: issues the words of a list in order, counting `pc` while commands complete OK,
and stops at the first that does not (log 16). -/
def hostRun : List Word → Nat → State → Nat × State
  | [], pc, s => (pc, s)
  | w :: rest, pc, s =>
    match hostWrite cmdIndex w s with
    | .next t => if t.busy = false ∧ t.cc = .ok then hostRun rest (pc + 1) t else (pc, t)
    | .fault _ => (pc, s)
    | .refused _ => (pc, s)

end Sys2Proof.Machine
end

