-- ==== Sys2Proof/Machine/Step.lean ====
section
/-! DEFINITION. One step of the machine: the host's next input (00_scope.md R14, 30_encoding.md R91). -/

namespace Sys2Proof.Machine

/-- One step. -/
def step : State → Host.Outcome State Fault Refusal := fun s => hostStep s

/-- `s` with the instruction of the opcode table's bits `w` presented at the command port, so that the next
step accepts and runs it (log 7). -/
def State.withFetchWord (s : State) (nbits w : Nat) : State := presentWord (tableWord nbits w) s

end Sys2Proof.Machine
end

