-- ==== Sys2Proof/Safety.lean ====
section
/-! DEFINITION. The terms claims are stated in: what a safe run is, the invariants of the state between steps, and
the tables of the spec that speak of the whole command set. -/

namespace Sys2Proof.Machine

/-- "A claim about a run takes ERRS = 0 at its end as 'no fault recorded'" (10_state.md R32). -/
def State.noFaultRecorded (s : State) : Prop := s.errs = false

/-- The result registers hold no value and RLEN is 0 (R36). -/
def NoResults (s : State) : Prop :=
  s.rbuf = #v[none, none, none, none, none, none] ∧ s.rlen = 0 ∧ s.raw = #v[none, none, none] ∧
    s.out = #v[none, none, none] ∧ s.res = none

/-- `s` with the result registers without value and an empty bus trace: what acceptance leaves of them
(R36, R91). -/
def State.cleared (s : State) : State :=
  { s with
    rbuf := #v[none, none, none, none, none, none], rlen := 0, raw := #v[none, none, none]
    out := #v[none, none, none], res := none, trace := [] }

/-- A sub-sensor's cache holds no value, or a range, the DIV10 value of that range and the valid bit (R25, R26,
R28). -/
def CacheOk (sensor : Sensor) (c : RangeCache) : Prop :=
  c = RangeCache.empty ∨ ∃ e m, c = { range := some e, scale := some (scaleTable sensor e), valid := true, mism := m }

/-- The invariants of LSTATE (R30 a and b). -/
def LifecycleOk (s : State) : Prop :=
  (s.lstate.isConfigured = true → s.acc.valid = true ∧ s.gyr.valid = true) ∧
    (s.lstate = .running → s.run = true) ∧ (s.lstate = .stopped → s.run = false)

/-- "RBUF[i] holds a value exactly when i < RLEN", and RLEN is 0 to 6 (R37). -/
def ResultsOk (s : State) : Prop :=
  s.rlen.toNat ≤ 6 ∧ ∀ i : Fin 6, s.rbuf[i].isSome = decide (i.val < s.rlen.toNat)

/-- ERRS is set while CC is an error, and ERRINFO is zero unless CC is BUS_ERROR (R32, R34, R210). -/
def StatusOk (s : State) : Prop :=
  (s.cc ≠ .ok → s.errs = true) ∧ (s.cc ≠ .busError → s.errinfo = 0)

/-- A settle wait. -/
def BusEvent.isSettle : BusEvent → Bool
  | .settle => true
  | .read _ _ _ _ => false
  | .write _ _ _ _ => false
  | .scan _ => false

/-- A write transaction that succeeded: a settle wait is due after it (20_memory.md R79). -/
def BusEvent.owesSettle : BusEvent → Bool
  | .write _ _ _ result => decide (result = .ok)
  | .settle => false
  | .read _ _ _ _ => false
  | .scan _ => false

/-- The next event is a settle wait exactly when one is due. -/
def traceSettledFrom : Bool → List BusEvent → Bool
  | due, [] => !due
  | due, e :: rest => (e.isSettle == due) && traceSettledFrom e.owesSettle rest

/-- In a bus trace every successful write is directly followed by its settle wait, and no other settle wait
occurs (20_memory.md R79, R80). -/
def traceSettled (t : List BusEvent) : Bool := traceSettledFrom false t

/-- The event carries the bus device address `d`, if it carries one (R21). -/
def BusEvent.carries (d : BusAddr) : BusEvent → Prop
  | .read device _ _ _ => device = d
  | .write device _ _ _ => device = d
  | .settle => True
  | .scan _ => True

/-- What holds in every state between two steps of a run. The lifecycle part is that of a state in which no
command hangs: a hung command has stopped in the middle (60_exceptions.md R228; log 1). -/
structure State.Inv (s : State) : Prop where
  memory : Memory.wf s.env.sensor = true
  accCache : CacheOk .accel s.acc
  gyrCache : CacheOk .gyro s.gyr
  results : ResultsOk s
  status : StatusOk s
  timerIdle : s.settleTimer = 0
  settled : traceSettled s.trace = true
  addressed : ∀ e ∈ s.trace, e.carries s.busAddr
  lifecycle : s.busy = false → LifecycleOk s

/-- The bus addresses a command may write in the sensor (R120, R122, R145, R146, R148, R152 to R154). -/
def writesAddr : Instr → Byte → Prop
  | .wrreg addr _, a => a = addr
  | .rmw addr _ _, a => a = addr
  | .reset, a => a = 0x6B
  | .wake, a => a = 0x6B
  | .start, a => a = 0x6B
  | .stop, a => a = 0x6B
  | .setrange sensor _, a => a = cfgAddr sensor
  | .init, a => a = 0x6B ∨ a = 0x1C ∨ a = 0x1B
  | .bind _ _ _, _ => False
  | .rdreg _ _, _ => False
  | .getrange _, _ => False
  | .probe, _ => False
  | .chkid, _ => False
  | .rdtriple _ _, _ => False
  | .getacc, _ => False
  | .getgyro, _ => False
  | .gettemp, _ => False

/-- LSTATE after a command that completes OK from LSTATE `l`, with `valid` telling whether both valid bits are 1
after it: the table of 41_state_machine.md R141, row by row. -/
def lstateTable (i : Instr) (l : LState) (valid : Bool) : LState :=
  match i with
  | .bind _ _ _ => .unknown
  | .reset => .reset
  | .wake =>
    match l with
    | .reset => .awake
    | .unknown => .unknown
    | .awake => .unknown
    | .configured => .unknown
    | .running => .unknown
    | .stopped => .unknown
  | .setrange _ _ =>
    match l with
    | .awake => if valid then .configured else .awake
    | .unknown => .unknown
    | .reset => .reset
    | .configured => .configured
    | .running => .running
    | .stopped => .stopped
  | .init => .configured
  | .start =>
    match l with
    | .configured => .running
    | .running => .running
    | .stopped => .running
    | .unknown => .unknown
    | .reset => .unknown
    | .awake => .unknown
  | .stop =>
    match l with
    | .configured => .stopped
    | .running => .stopped
    | .stopped => .stopped
    | .unknown => .unknown
    | .reset => .unknown
    | .awake => .unknown
  | .wrreg addr _ => if addr = 0x1B ∨ addr = 0x1C ∨ addr = 0x6B then .unknown else l
  | .rmw addr _ _ => if addr = 0x1B ∨ addr = 0x1C ∨ addr = 0x6B then .unknown else l
  | .rdreg _ _ => l
  | .getrange _ => l
  | .probe => l
  | .chkid => l
  | .rdtriple _ _ => l
  | .getacc => l
  | .getgyro => l
  | .gettemp => l

/-- The number of settle waits of a command that completes OK: the table of 70_reset_and_hazards.md R255. -/
def settleWaits : Instr → Nat
  | .bind _ _ _ => 0
  | .rdreg _ _ => 0
  | .getrange _ => 0
  | .probe => 0
  | .chkid => 0
  | .rdtriple _ _ => 0
  | .getacc => 0
  | .getgyro => 0
  | .gettemp => 0
  | .wrreg _ _ => 1
  | .rmw _ _ _ => 1
  | .reset => 1
  | .wake => 1
  | .setrange _ _ => 1
  | .start => 1
  | .stop => 1
  | .init => 4

/-- The STEP values a command may report with BUS_ERROR are those below this number: the table of
60_exceptions.md R214. -/
def busErrorSteps : Instr → Nat
  | .bind _ _ _ => 0
  | .wrreg _ _ => 1
  | .rdreg _ _ => 1
  | .rmw _ _ _ => 2
  | .reset => 2
  | .wake => 1
  | .setrange _ _ => 3
  | .getrange _ => 1
  | .init => 9
  | .start => 2
  | .stop => 2
  | .probe => 0
  | .chkid => 1
  | .rdtriple _ _ => 1
  | .getacc => 1
  | .getgyro => 1
  | .gettemp => 1

/-- The last event of a trace is a failed transaction and `info` names it (10_state.md R34): STEP its index among
the transactions, DIR, KIND and FADDR its own. -/
def NamesFailure (t : List BusEvent) (info : BitVec 16) : Prop :=
  ∃ before device addr kind,
    (∃ count, t = before ++ [.read device addr count (.error kind)] ∧
      info = errinfoWord (transactions before) .read addr kind) ∨
    (∃ value, t = before ++ [.write device addr value (.error kind)] ∧
      info = errinfoWord (transactions before) .write addr kind)

/-- `t` is what a command issued in `s` leaves when its write of `v` to `addr`, its transaction number `step`, failed
after the events `before`, with the environment `env` as it was before that write (R34, R219): BUS_ERROR with STEP, DIR
= 1, KIND and FADDR, no settle wait after the write, RUN as it was. -/
def AbortedAtWrite (s t : State) (step : Nat) (addr v : Byte) (kind : BusErrorKind) (before : List BusEvent)
    (env : Env) : Prop :=
  t.busy = false ∧ t.cc = .busError ∧ t.errs = true ∧ t.lstate = .unknown ∧ t.run = s.run ∧ NoResults t ∧
    t.env = env ∧ t.trace = before ++ [.write s.busAddr addr v (.error kind)] ∧
    t.errinfo =
      (addr.setWidth 16 <<< 8) ||| ((kindCode kind).setWidth 16 <<< 5) ||| 0x10#16 ||| BitVec.ofNat 16 step

end Sys2Proof.Machine
end

