-- ==== Sys2Proof/Certificates/Slice0/Obligations.lean ====
section
/-! DEFINITION. The statements about the machine, one definition each, from the rules of spec/. -/

open Sys2Proof Sys2Proof.Machine

/-! ### The step and the command port -/

/-- 30_encoding.md R91, R94: an idle block runs the decoded command that the host presents. -/
def Obligations.StepRunsDecodedCommand : Prop :=
  (∀ (s : State) (w : Word) (i : Instr) (rest : List HostInput),
    s.busy = false → s.inputs = .write 0 w :: rest → decode w = .ok i → step s = exec i { s with inputs := rest }) ∧
  (∀ (s : State) (nbits w : Nat) (i : Instr),
    decodeTableWord nbits w = some i → step (s.withFetchWord nbits w) = exec i { s with busy := false })

/-- 60_exceptions.md R212: an illegal word is accepted and completes ILLEGAL_CMD, and nothing else changes. -/
def Obligations.IllegalWordCompletesIllegalCmd : Prop :=
  ∀ (s : State) (w : Word) (why : DecodeError) (rest : List HostInput),
    s.busy = false → s.inputs = .write 0 w :: rest → decode w = .error why →
    step s = .next { s.cleared with
      inputs := rest, cc := .illegalCmd, errs := true, errinfo := 0, busy := false }

/-- 60_exceptions.md R228, 30_encoding.md R91: with BUSY = 1 no word is accepted, and only block reset leads on.
That BUSY = 1 is a state between steps is the model's reading (log 1). -/
def Obligations.HungBlockAcceptsNothing : Prop :=
  ∀ s : State, s.busy = true →
    (s.inputs = [] → step s = .fault .transactionNeverReturned) ∧
    (∀ w rest, s.inputs = .write 0 w :: rest → step s = .fault .transactionNeverReturned) ∧
    (∀ rest, s.inputs = .blockReset :: rest → ∃ t, step s = .next t ∧ t.busy = false ∧ t.inputs = rest)

/-- 10_state.md R35 and 70_reset_and_hazards.md R243: host reads change no register of the block, host writes to
any index but CMD are ignored, and the idle block waits. A read the rule allows, of any index while BUSY = 0 and of
STATUS at any time, returns the bits of the host map; so does a read of CMD, which returns 0 at any time. -/
def Obligations.HostAccessLeavesRegisters : Prop :=
  ∀ s : State,
    (s.inputs = [] → s.busy = false → step s = .next s) ∧
    (∀ index value rest, index ≠ 0 → s.inputs = .write index value :: rest →
      step s = .next { s with inputs := rest }) ∧
    (∀ index rest, s.inputs = .read index :: rest → ∃ u v : Word,
      step s = .next { s with inputs := rest, hostData := v, env := { s.env with drawn := s.env.drawn + 1 } } ∧
      (s.busy = false ∨ index = 0 ∨ index = 1 → v = hostWord s u index))

/-- 10_state.md R35: the bits of every register of the host map, for every value `u` of the bits of fields that
hold none. Bits above a layout read 0, which is the model's choice (log 11). -/
def Obligations.HostRegisterMap : Prop :=
  ∀ (s : State) (u : Word),
    (let v := hostWord s u 0x01;
      v.getLsbD 0 = s.busy ∧ v.getLsbD 1 = s.run ∧ v.getLsbD 2 = s.errs ∧ v.getLsbD 3 = s.acc.valid ∧
      v.getLsbD 4 = s.gyr.valid ∧ v.getLsbD 5 = s.acc.mism ∧ v.getLsbD 6 = s.gyr.mism ∧ v.getLsbD 7 = false ∧
      v.extractLsb' 8 3 = lstateCode s.lstate ∧ v.getLsbD 11 = false ∧
      v.extractLsb' 12 3 = completionCode s.cc ∧ v.extractLsb' 15 17 = 0) ∧
    (let v := hostWord s u 0x02;
      v.extractLsb' 0 7 = s.busAddr ∧ v.getLsbD 7 = false ∧ v.extractLsb' 8 2 = s.reqA ∧
      v.extractLsb' 10 2 = s.reqG ∧ v.extractLsb' 12 20 = 0) ∧
    (∀ a, s.acc.range = some a → (hostWord s u 0x03).extractLsb' 0 2 = a) ∧
    (∀ g, s.gyr.range = some g → (hostWord s u 0x03).extractLsb' 2 2 = g) ∧
    (hostWord s u 0x03).extractLsb' 4 28 = 0 ∧
    (∀ d, s.acc.scale = some d → hostWord s u 0x04 = d.setWidth 32) ∧
    (∀ d, s.gyr.scale = some d → hostWord s u 0x05 = d.setWidth 32) ∧
    hostWord s u 0x06 = s.errinfo.setWidth 32 ∧
    (∀ b, s.res = some b → hostWord s u 0x07 = b.setWidth 32) ∧
    hostWord s u 0x08 = s.rlen.setWidth 32 ∧
    (∀ (i : Fin 6) (b : Byte), s.rbuf[i] = some b → hostWord s u (0x10 + i.val) = b.setWidth 32) ∧
    (∀ (i : Fin 3) (x : Sample), s.raw[i] = some x → hostWord s u (0x18 + i.val) = x.setWidth 32) ∧
    (∀ (i : Fin 3) (q : Q16), s.out[i] = some q → hostWord s u (0x1C + i.val) = q) ∧
    hostWord s u 0 = 0 ∧
    (∀ index, (0x09 ≤ index ∧ index ≤ 0x0F) ∨ index = 0x16 ∨ index = 0x17 ∨ index = 0x1B ∨ 0x1F ≤ index →
      hostWord s u index = 0)

/-! ### Decode and encode -/

/-- 30_encoding.md R92, R93: decoding an encoded legal command gives it back, for every operand. -/
def Obligations.DecodeOfEncode : Prop :=
  ∀ i : Instr, i.wellFormed = true → decode (encode i) = .ok i

/-- 30_encoding.md R92, R93, R97: a legal word is the encoding of the command it decodes to, and that command is
well-formed, so no two words have one meaning and no must-be-zero bit is dropped. -/
def Obligations.EncodeOfDecode : Prop :=
  ∀ (w : Word) (i : Instr), decode w = .ok i → encode i = w ∧ i.wellFormed = true

/-- 30_encoding.md R94, R97: a word is legal exactly when its opcode is one of the seventeen, its must-be-zero bits
are 0, the count of an RDREG is 1 to 6 and the sel of an RDTRIPLE is not 2 to 7. -/
def Obligations.LegalWordsExactly : Prop :=
  ∀ w : Word, (∃ i, decode w = .ok i) ↔
    ∃ op : Op, (opRow op).code = w.extractLsb' 24 8 ∧ w &&& (opRow op).mask = (opRow op).pattern ∧
      (op = .rdreg → 1 ≤ (w.extractLsb' 8 3).toNat ∧ (w.extractLsb' 8 3).toNat ≤ 6) ∧
      (op = .rdtriple → (w.extractLsb' 8 4).toNat < 2 ∨ 8 ≤ (w.extractLsb' 8 4).toNat)

/-- 30_encoding.md R93: "No two rows match the same word". -/
def Obligations.OpcodeRowsDisjoint : Prop :=
  ∀ (w : Word) (o p : Op),
    w &&& (opRow o).mask = (opRow o).pattern → w &&& (opRow p).mask = (opRow p).pattern → o = p

/-- 30_encoding.md R99 and 95_test_vectors.md 2.2: words of every family decode as the spec writes them. -/
def Obligations.SpecWordsDecode : Prop :=
  decode 0x01680102 = .ok (.bind 0x68 1 2) ∧ decode 0x106B0100 = .ok (.wrreg 0x6B 0x01) ∧
  decode 0x11750100 = .ok (.rdreg 0x75 1) ∧ decode 0x126B4000 = .ok (.rmw 0x6B 0x40 0x00) ∧
  decode 0x22010300 = .ok (.setrange .gyro 3) ∧ decode 0x23000000 = .ok (.getrange .accel) ∧
  decode 0x24000000 = .ok .init ∧ decode 0x303B0900 = .ok (.rdtriple 0x3B (.table .accel 1)) ∧
  decode 0x30FF0100 = .ok (.rdtriple 0xFF (.cached .gyro)) ∧ decode 0x33000000 = .ok .gettemp ∧
  decode 0x00000000 = .error .unknownOpcode ∧ decode 0x11750800 = .error .mustBeZero ∧
  decode 0x11750700 = .error .countOutOfRange ∧ decode 0x303B0700 = .error .selReserved

/-! ### Reset -/

/-- 10_state.md R47, 70_reset_and_hazards.md R240: the registers after block reset, which drops whatever the block was
doing, performs no bus primitive and does not reset the sensor's registers. -/
def Obligations.ResetRegisterValues : Prop :=
  let values := fun s : State =>
    s.busAddr = 0x68 ∧ s.reqA = 0 ∧ s.reqG = 0 ∧ s.acc.valid = false ∧ s.gyr.valid = false ∧
    s.acc.range = none ∧ s.gyr.range = none ∧ s.acc.scale = none ∧ s.gyr.scale = none ∧ s.run = false ∧
    s.acc.mism = false ∧ s.gyr.mism = false ∧ s.lstate = .unknown ∧ s.cc = .ok ∧ s.errs = false ∧ s.busy = false ∧
    s.errinfo = 0 ∧ NoResults s ∧ s.settleTimer = 0
  values State.reset ∧
    ∀ (s : State) (rest : List HostInput), s.inputs = .blockReset :: rest →
      ∃ t, step s = .next t ∧ values t ∧ t.env = s.env ∧ t.trace = []

/-- 70_reset_and_hazards.md R240, R241: block reset, whatever the block was doing, leaves the reset state but for the
environment, the host's remaining inputs and what the host last read, which are no registers of the block (log 13).
A write that it cuts short, the raw write of WRREG here, has reached the device or has not, as the environment chose,
and reset leaves the device so. That the cut shows as a transaction that never returns is the model's (log 13). -/
def Obligations.BlockResetRestoresRegisters : Prop :=
  (∀ (s : State) (rest : List HostInput), s.inputs = .blockReset :: rest →
    step s = .next { State.reset with env := s.env, inputs := rest, hostData := s.hostData }) ∧
  (∀ (s : State) (w : Word) (addr v : Byte) (landed : Bool) (replies : List Reply) (rest : List HostInput),
    s.busy = false → decode w = .ok (.wrreg addr v) → s.env.replies = .never landed :: replies →
    s.inputs = .write 0 w :: .blockReset :: rest →
    let env := { s.env with replies := replies }
    ∃ t, step s = .next t ∧ t.busy = true ∧ step t = .next { State.reset with
      env := if landed then deviceWrite env addr v else env, inputs := rest, hostData := s.hostData })

/-! ### Every command: completion, abort, results -/

/-- 60_exceptions.md R210: a command all of whose transactions return completes; and one that does not complete
has stopped at a transaction that never returned (R228). -/
def Obligations.CommandsComplete : Prop :=
  (∀ (i : Instr) (s : State), 9 ≤ s.env.replies.length → (∀ landed, .never landed ∉ s.env.replies) →
    ∃ t, exec i s = .next t ∧ t.busy = false) ∧
  (∀ (i : Instr) (s : State), ∃ t, exec i s = .next t ∧
    (t.busy = true → ∃ before device addr,
      (∃ count, t.trace = before ++ [.read device addr count .never]) ∨
      (∃ value, t.trace = before ++ [.write device addr value .never])))

/-- 60_exceptions.md R210, 10_state.md R32: the completion registers after every completed command. -/
def Obligations.CompletionRegisters : Prop :=
  ∀ (i : Instr) (s t : State), exec i s = .next t → t.busy = false →
    (t.cc ≠ .ok → t.errs = true) ∧ (t.cc ≠ .busError → t.errinfo = 0) ∧
    (t.cc = .ok → (∃ busaddr reqA reqG, i = .bind busaddr reqA reqG) → t.errs = false) ∧
    (t.cc = .ok → (∀ busaddr reqA reqG, i ≠ .bind busaddr reqA reqG) → t.errs = s.errs)

/-- 10_state.md R36: a command that does not complete OK leaves every result register without a value. -/
def Obligations.ResultsOnlyWhenOk : Prop :=
  ∀ (i : Instr) (s t : State), exec i s = .next t → t.busy = true ∨ t.cc ≠ .ok → NoResults t

/-- 60_exceptions.md R219, R214, 10_state.md R34: what an abort leaves. ERRINFO names the last transaction of the
trace, which is the one that failed, and its STEP is one the command can report. -/
def Obligations.AbortNamesFailedTransaction : Prop :=
  ∀ (i : Instr) (s t : State), exec i s = .next t → t.busy = false → t.cc = .busError →
    t.lstate = .unknown ∧ t.errs = true ∧ NamesFailure t.trace t.errinfo ∧
    transactions t.trace ≤ busErrorSteps i

/-- 60_exceptions.md R213, R214, R218: only the decode commands that use a cached scale complete NO_SCALE, only
while its valid bit is 0 or it has no value, and with no bus primitive. -/
def Obligations.NoScaleOnlyForDecode : Prop :=
  ∀ (i : Instr) (s t : State), exec i s = .next t → t.busy = false → t.cc = .noScale →
    t.trace = [] ∧ t.env = s.env ∧ t.lstate = s.lstate ∧
    ∃ sensor, ((s.cache sensor).valid = false ∨ (s.cache sensor).scale = none) ∧
      ((∃ addr, i = .rdtriple addr (.cached sensor)) ∨ (i = .getacc ∧ sensor = .accel) ∨
        (i = .getgyro ∧ sensor = .gyro))

/-! ### Frames: what the commands leave unchanged -/

/-- 10_state.md R21, R22: BUS_ADDR, REQ_A and REQ_G are written by BIND alone. -/
def Obligations.OnlyBindWritesConfiguration : Prop :=
  ∀ (i : Instr) (s t : State), exec i s = .next t → (∀ busaddr reqA reqG, i ≠ .bind busaddr reqA reqG) →
    t.busAddr = s.busAddr ∧ t.reqA = s.reqA ∧ t.reqG = s.reqG

/-- 10_state.md R27: RUN is written by START and STOP, each only when it completes OK, and by BIND. -/
def Obligations.RunWriters : Prop :=
  ∀ (i : Instr) (s t : State), exec i s = .next t →
    (i = .start → t.run = if t.busy = false ∧ t.cc = .ok then true else s.run) ∧
    (i = .stop → t.run = if t.busy = false ∧ t.cc = .ok then false else s.run) ∧
    ((∃ busaddr reqA reqG, i = .bind busaddr reqA reqG) → t.run = false) ∧
    (i ≠ .start → i ≠ .stop → (∀ busaddr reqA reqG, i ≠ .bind busaddr reqA reqG) → t.run = s.run)

/-- 10_state.md R23, R26, 20_memory.md R83: both range caches are unchanged by every command but BIND, RESET, INIT,
SETRANGE of that sub-sensor and the raw writes, and by raw writes to other addresses. -/
def Obligations.CacheWriters : Prop :=
  ∀ (i : Instr) (s t : State), exec i s = .next t →
    match i with
    | .bind _ _ _ => t.acc = RangeCache.empty ∧ t.gyr = RangeCache.empty
    | .reset => t.acc = RangeCache.empty ∧ t.gyr = RangeCache.empty
    | .init => (t.acc = RangeCache.empty ∨ t.acc.valid = true) ∧ (t.gyr = RangeCache.empty ∨ t.gyr.valid = true)
    | .setrange .accel _ => (t.acc = RangeCache.empty ∨ t.acc.valid = true) ∧ t.gyr = s.gyr
    | .setrange .gyro _ => t.acc = s.acc ∧ (t.gyr = RangeCache.empty ∨ t.gyr.valid = true)
    | .wrreg addr _ => (addr ≠ 0x1C → addr ≠ 0x6B → t.acc = s.acc) ∧ (addr ≠ 0x1B → addr ≠ 0x6B → t.gyr = s.gyr)
    | .rmw addr _ _ => (addr ≠ 0x1C → addr ≠ 0x6B → t.acc = s.acc) ∧ (addr ≠ 0x1B → addr ≠ 0x6B → t.gyr = s.gyr)
    | .rdreg _ _ => t.acc = s.acc ∧ t.gyr = s.gyr
    | .wake => t.acc = s.acc ∧ t.gyr = s.gyr
    | .getrange _ => t.acc = s.acc ∧ t.gyr = s.gyr
    | .start => t.acc = s.acc ∧ t.gyr = s.gyr
    | .stop => t.acc = s.acc ∧ t.gyr = s.gyr
    | .probe => t.acc = s.acc ∧ t.gyr = s.gyr
    | .chkid => t.acc = s.acc ∧ t.gyr = s.gyr
    | .rdtriple _ _ => t.acc = s.acc ∧ t.gyr = s.gyr
    | .getacc => t.acc = s.acc ∧ t.gyr = s.gyr
    | .getgyro => t.acc = s.acc ∧ t.gyr = s.gyr
    | .gettemp => t.acc = s.acc ∧ t.gyr = s.gyr

/-- 10_state.md R36 to R40: the result registers each command may write; every other one is left without value. -/
def Obligations.ResultWriters : Prop :=
  ∀ (i : Instr) (s t : State), exec i s = .next t →
    match i with
    | .rdreg _ _ => t.raw = #v[none, none, none] ∧ t.out = #v[none, none, none] ∧ t.res = none
    | .rdtriple _ _ => t.res = none
    | .getacc => t.res = none
    | .getgyro => t.res = none
    | .gettemp => t.res = none ∧ t.raw[1] = none ∧ t.raw[2] = none ∧ t.out[1] = none ∧ t.out[2] = none ∧
        t.rbuf[2] = none ∧ t.rbuf[3] = none ∧ t.rbuf[4] = none ∧ t.rbuf[5] = none
    | .setrange _ _ => t.rbuf = s.cleared.rbuf ∧ t.rlen = 0 ∧ t.raw = s.cleared.raw ∧ t.out = s.cleared.out
    | .getrange _ => t.rbuf = s.cleared.rbuf ∧ t.rlen = 0 ∧ t.raw = s.cleared.raw ∧ t.out = s.cleared.out
    | .probe => t.rbuf = s.cleared.rbuf ∧ t.rlen = 0 ∧ t.raw = s.cleared.raw ∧ t.out = s.cleared.out
    | .chkid => t.rbuf = s.cleared.rbuf ∧ t.rlen = 0 ∧ t.raw = s.cleared.raw ∧ t.out = s.cleared.out
    | .bind _ _ _ => NoResults t
    | .wrreg _ _ => NoResults t
    | .rmw _ _ _ => NoResults t
    | .reset => NoResults t
    | .wake => NoResults t
    | .init => NoResults t
    | .start => NoResults t
    | .stop => NoResults t

/-- Every byte of the sensor's register space but those a command writes is unchanged, by every command, whatever
the device; so are the device assumption, the host's inputs and its last read; and the settle timer is idle or
as it was (20_memory.md R61, R84; 10_state.md R35, R43). -/
def Obligations.MemoryAndPortFrame : Prop :=
  ∀ (i : Instr) (s t : State), exec i s = .next t →
    (∀ a : Byte, ¬ writesAddr i a → memByte t.env.sensor a.toNat = memByte s.env.sensor a.toNat) ∧
    t.env.device = s.env.device ∧ t.inputs = s.inputs ∧ t.hostData = s.hostData ∧
    (t.settleTimer = 0 ∨ t.settleTimer = s.settleTimer) ∧
    ((∀ a, ¬ writesAddr i a) → t.settleTimer = s.settleTimer ∧ t.env.sensor = s.env.sensor)

/-! ### Whole-machine rules -/

/-- 41_state_machine.md R141: the next-state function of LSTATE, every row, with the row of illegal words. -/
def Obligations.LstateNextState : Prop :=
  (∀ (i : Instr) (s t : State), exec i s = .next t → t.busy = false →
    (t.cc = .ok → t.lstate = lstateTable i s.lstate (t.acc.valid && t.gyr.valid)) ∧
    (t.cc = .busError → t.lstate = .unknown) ∧
    (t.cc = .illegalCmd ∨ t.cc = .noScale → t.lstate = s.lstate)) ∧
  (∀ s : State, (illegalCommand s).lstate = s.lstate) ∧
  (∀ (addr v m : Byte) (s t : State), addr = 0x1B ∨ addr = 0x1C ∨ addr = 0x6B →
    (exec (.wrreg addr v) s = .next t → t.lstate = .unknown) ∧
    (exec (.rmw addr m v) s = .next t → t.lstate = .unknown))

/-- 40_register_access.md R124: the effects of raw writes to managed registers, which stand whether or not the bus
transactions succeed; the state-machine commands that write 0x6B and keep the caches have none of them. -/
def Obligations.ManagedWriteEffects : Prop :=
  (∀ (i : Instr) (addr : Byte) (s t : State),
    (∃ v, i = .wrreg addr v) ∨ (∃ m v, i = .rmw addr m v) → exec i s = .next t →
    (addr = 0x1C → t.acc = RangeCache.empty ∧ t.gyr = s.gyr ∧ t.lstate = .unknown) ∧
    (addr = 0x1B → t.gyr = RangeCache.empty ∧ t.acc = s.acc ∧ t.lstate = .unknown) ∧
    (addr = 0x6B → t.acc = RangeCache.empty ∧ t.gyr = RangeCache.empty ∧ t.lstate = .unknown) ∧
    (addr ≠ 0x1C → addr ≠ 0x1B → addr ≠ 0x6B → t.acc = s.acc ∧ t.gyr = s.gyr ∧
      (t.lstate = s.lstate ∨ t.busy = false ∧ t.cc = .busError ∧ t.lstate = .unknown)) ∧
    t.run = s.run) ∧
  (∀ (i : Instr) (s t : State), i = .wake ∨ i = .start ∨ i = .stop → exec i s = .next t →
    t.acc = s.acc ∧ t.gyr = s.gyr)

/-- 20_memory.md R79, 10_state.md R21: in the trace of every command each successful write is directly followed by
its settle wait, no other wait occurs, and every transaction carries BUS_ADDR. -/
def Obligations.EveryWriteSettles : Prop :=
  ∀ (i : Instr) (s t : State), exec i s = .next t →
    traceSettled t.trace = true ∧ ∀ e ∈ t.trace, e.carries t.busAddr

/-- 70_reset_and_hazards.md R255: the number of settle waits of a command that completes OK, and, of every command, as
many waits as writes that succeeded. -/
def Obligations.SettleWaitsPerCommand : Prop :=
  ∀ (i : Instr) (s t : State), exec i s = .next t →
    (t.busy = false → t.cc = .ok → t.trace.countP BusEvent.isSettle = settleWaits i) ∧
    t.trace.countP BusEvent.isSettle = t.trace.countP BusEvent.owesSettle

/-- 10_state.md R41: no rule reads RBUF, RLEN, RAW, OUT or RES: what they hold before a command has no influence
on anything after it. -/
def Obligations.ResultsFeedNothing : Prop :=
  ∀ (i : Instr) (s : State) (rbuf : Vector (Option Byte) 6) (rlen : BitVec 3) (raw : Vector (Option Sample) 3)
    (out : Vector (Option Q16) 3) (res : Option Byte),
    exec i { s with rbuf := rbuf, rlen := rlen, raw := raw, out := out, res := res } = exec i s

/-- 10_state.md R27, R29: RUN is read by no rule and LSTATE is "a record, not a guard": changing both before a
command changes at most these two after it. -/
def Obligations.RunAndLstateGuardNothing : Prop :=
  ∀ (i : Instr) (s t : State) (run : Bool) (l : LState), exec i s = .next t →
    ∃ run' l', exec i { s with run := run, lstate := l } = .next { t with run := run', lstate := l' }

/-- 10_state.md R25, R26, R28, R30, R37, 20_memory.md R79: every step keeps the invariants of the state. -/
def Obligations.StepKeepsStateInvariants : Prop :=
  ∀ s t : State, s.Inv → step s = .next t → t.Inv

/-- 10_state.md R47: the invariants hold after block reset. -/
def Obligations.ResetHasStateInvariants : Prop := State.reset.Inv

/-! ### Register access commands -/

/-- 40_register_access.md R120: WRREG whose write succeeds. -/
def Obligations.WrregWritesRegister : Prop :=
  ∀ (addr byte : Byte) (s : State) (b : Burst) (rest : List Reply), s.env.replies = .ok b :: rest →
    exec (.wrreg addr byte) s = .next { s.cleared with
      acc := if addr = 0x1C ∨ addr = 0x6B then RangeCache.empty else s.acc
      gyr := if addr = 0x1B ∨ addr = 0x6B then RangeCache.empty else s.gyr
      lstate := if addr = 0x1B ∨ addr = 0x1C ∨ addr = 0x6B then .unknown else s.lstate
      cc := .ok, errinfo := 0, busy := false, settleTimer := 0
      env := deviceWrite { s.env with replies := rest } addr byte
      trace := [.write s.busAddr addr byte .ok, .settle] }

/-- 40_register_access.md R121: RDREG whose read succeeds, for the counts 1 to 6; with count 0 or 7 it completes
ILLEGAL_CMD (30_encoding.md R97). -/
def Obligations.RdregReadsRegisters : Prop :=
  (∀ (addr : Byte) (count : BitVec 3) (s : State) (b : Burst) (rest : List Reply),
    1 ≤ count.toNat → count.toNat ≤ 6 → s.env.replies = .ok b :: rest →
    let bytes := deviceRead { s.env with replies := rest } addr b
    exec (.rdreg addr count) s = .next { s.cleared with
      rbuf := Vector.ofFn fun i : Fin 6 => if i.val < count.toNat then some bytes[i] else none
      rlen := count, cc := .ok, errinfo := 0, busy := false, env := { s.env with replies := rest }
      trace := [.read s.busAddr addr count.toNat (.bytes (bytes.toList.take count.toNat))] }) ∧
  (∀ (addr : Byte) (count : BitVec 3) (s : State), count = 0 ∨ count = 7 →
    exec (.rdreg addr count) s = .next { s.cleared with
      cc := .illegalCmd, errs := true, errinfo := 0, busy := false })

/-- 40_register_access.md R122, R123: RMW whose read and write succeed writes `(old & ~mask_clear) | bits_set`. -/
def Obligations.RmwWritesChangedByte : Prop :=
  ∀ (addr mask bits : Byte) (s : State) (b0 b1 : Burst) (rest : List Reply),
    s.env.replies = .ok b0 :: .ok b1 :: rest →
    let env := { s.env with replies := rest }
    let old := (deviceRead env addr b0)[0]
    let new := (old &&& ~~~mask) ||| bits
    exec (.rmw addr mask bits) s = .next { s.cleared with
      acc := if addr = 0x1C ∨ addr = 0x6B then RangeCache.empty else s.acc
      gyr := if addr = 0x1B ∨ addr = 0x6B then RangeCache.empty else s.gyr
      lstate := if addr = 0x1B ∨ addr = 0x1C ∨ addr = 0x6B then .unknown else s.lstate
      cc := .ok, errinfo := 0, busy := false, settleTimer := 0, env := deviceWrite env addr new
      trace := [.read s.busAddr addr 1 (.bytes [old]), .write s.busAddr addr new .ok, .settle] }

/-! ### State machine commands -/

/-- 41_state_machine.md R143, 70_reset_and_hazards.md R242: BIND, and what it shares with block reset. -/
def Obligations.BindConstructsHandle : Prop :=
  ∀ (busaddr : BusAddr) (reqA reqG : RangeEnum) (s : State),
    exec (.bind busaddr reqA reqG) s = .next { s.cleared with
      busAddr := busaddr, reqA := reqA, reqG := reqG, acc := RangeCache.empty, gyr := RangeCache.empty
      run := false, lstate := .unknown, cc := .ok, errs := false, errinfo := 0, busy := false } ∧
    (s.settleTimer = 0 → exec (.bind busaddr reqA reqG) s = .next { State.reset with
      busAddr := busaddr, reqA := reqA, reqG := reqG, env := s.env, inputs := s.inputs, hostData := s.hostData })

/-- 41_state_machine.md R145: RESET sets bit 7 of 0x6B and no other bit; both caches lose their values. -/
def Obligations.ResetSetsResetBit : Prop :=
  ∀ (s : State) (b0 b1 : Burst) (rest : List Reply), s.env.replies = .ok b0 :: .ok b1 :: rest →
    let env := { s.env with replies := rest }
    let old := (deviceRead env 0x6B b0)[0]
    exec .reset s = .next { s.cleared with
      acc := RangeCache.empty, gyr := RangeCache.empty, lstate := .reset, cc := .ok, errinfo := 0, busy := false
      settleTimer := 0, env := deviceWrite env 0x6B (old ||| 0x80)
      trace := [.read s.busAddr 0x6B 1 (.bytes [old]), .write s.busAddr 0x6B (old ||| 0x80) .ok, .settle] }

/-- 41_state_machine.md R146: WAKE writes the whole byte 0x01 to 0x6B without a read. -/
def Obligations.WakeWritesWholeByte : Prop :=
  ∀ (s : State) (b : Burst) (rest : List Reply), s.env.replies = .ok b :: rest →
    exec .wake s = .next { s.cleared with
      lstate := if s.lstate = .reset then .awake else .unknown, cc := .ok, errinfo := 0, busy := false
      settleTimer := 0, env := deviceWrite { s.env with replies := rest } 0x6B 0x01
      trace := [.write s.busAddr 0x6B 0x01 .ok, .settle] }

/-- 41_state_machine.md R148, R149, R156, 10_state.md R24: SETRANGE stores the range read back, whatever was asked for,
with the DIV10 value of that range as the table of R24 gives it, and the mismatch bit. -/
def Obligations.SetrangeStoresReadBack : Prop :=
  ∀ (sensor : Sensor) (r : RangeEnum) (s : State) (b0 b1 b2 : Burst) (rest : List Reply),
    s.env.replies = .ok b0 :: .ok b1 :: .ok b2 :: rest →
    let addr : Byte := match sensor with | .accel => 0x1C | .gyro => 0x1B
    let env := { s.env with replies := rest }
    let old := (deviceRead env addr b0)[0]
    let new := (old &&& 0xE7#8) ||| (r.setWidth 8 <<< 3)
    let env' := deviceWrite env addr new
    let back := (deviceRead env' addr b2)[0]
    let e := back.extractLsb' 3 2
    let div10 : Div10 := match sensor with
      | .accel => if e = 0 then 163840 else if e = 1 then 81920 else if e = 2 then 40960 else 20480
      | .gyro => if e = 0 then 1310 else if e = 1 then 655 else if e = 2 then 328 else 164
    let cache : RangeCache := { range := some e, scale := some div10, valid := true, mism := decide (e ≠ r) }
    let otherValid := match sensor with | .accel => s.gyr.valid | .gyro => s.acc.valid
    exec (.setrange sensor r) s = .next { s.cleared with
      acc := match sensor with | .accel => cache | .gyro => s.acc
      gyr := match sensor with | .accel => s.gyr | .gyro => cache
      lstate := if s.lstate = .awake ∧ otherValid = true then .configured else s.lstate
      res := some (e.setWidth 8), cc := .ok, errinfo := 0, busy := false, settleTimer := 0, env := env'
      trace := [.read s.busAddr addr 1 (.bytes [old]), .write s.busAddr addr new .ok, .settle,
        .read s.busAddr addr 1 (.bytes [back])] }

/-- 41_state_machine.md R147, R150: GETRANGE returns bits 4:3 of the configuration register and touches neither
cache nor LSTATE. -/
def Obligations.GetrangeReadsEnum : Prop :=
  ∀ (sensor : Sensor) (s : State) (b : Burst) (rest : List Reply), s.env.replies = .ok b :: rest →
    let addr : Byte := match sensor with | .accel => 0x1C | .gyro => 0x1B
    let v := (deviceRead { s.env with replies := rest } addr b)[0]
    exec (.getrange sensor) s = .next { s.cleared with
      res := some ((v.extractLsb' 3 2).setWidth 8), cc := .ok, errinfo := 0, busy := false
      env := { s.env with replies := rest }, trace := [.read s.busAddr addr 1 (.bytes [v])] }

/-- 41_state_machine.md R152: INIT whose nine transactions succeed: the whole trace, both caches from their
read-backs, LSTATE CONFIGURED. -/
def Obligations.InitRunsFullSequence : Prop :=
  ∀ (s : State) (b0 b1 b2 b3 b4 b5 b6 b7 b8 : Burst) (rest : List Reply),
    s.env.replies = .ok b0 :: .ok b1 :: .ok b2 :: .ok b3 :: .ok b4 :: .ok b5 :: .ok b6 :: .ok b7 :: .ok b8 :: rest →
    let d := s.busAddr
    let env := { s.env with replies := rest }
    let old := (deviceRead env 0x6B b0)[0]
    let env := deviceWrite (deviceWrite env 0x6B (old ||| 0x80)) 0x6B 0x01
    let oldA := (deviceRead env 0x1C b3)[0]
    let newA := (oldA &&& 0xE7#8) ||| (s.reqA.setWidth 8 <<< 3)
    let env := deviceWrite env 0x1C newA
    let backA := (deviceRead env 0x1C b5)[0]
    let eA := backA.extractLsb' 3 2
    let oldG := (deviceRead env 0x1B b6)[0]
    let newG := (oldG &&& 0xE7#8) ||| (s.reqG.setWidth 8 <<< 3)
    let env := deviceWrite env 0x1B newG
    let backG := (deviceRead env 0x1B b8)[0]
    let eG := backG.extractLsb' 3 2
    exec .init s = .next { s.cleared with
      acc := { range := some eA, scale := some (accTable eA), valid := true, mism := decide (eA ≠ s.reqA) }
      gyr := { range := some eG, scale := some (gyrTable eG), valid := true, mism := decide (eG ≠ s.reqG) }
      lstate := .configured, cc := .ok, errinfo := 0, busy := false, settleTimer := 0, env := env
      trace := [.read d 0x6B 1 (.bytes [old]), .write d 0x6B (old ||| 0x80) .ok, .settle,
        .write d 0x6B 0x01 .ok, .settle,
        .read d 0x1C 1 (.bytes [oldA]), .write d 0x1C newA .ok, .settle, .read d 0x1C 1 (.bytes [backA]),
        .read d 0x1B 1 (.bytes [oldG]), .write d 0x1B newG .ok, .settle, .read d 0x1B 1 (.bytes [backG])] }

/-- 41_state_machine.md R152: an INIT that fails at bus step 7, the write of GYRO_CONFIG, keeps the accelerometer
range that was read back, with AVALID = 1, GVALID = 0, LSTATE UNKNOWN and STEP = 7. -/
def Obligations.InitAbortKeepsEarlierSteps : Prop :=
  ∀ (s : State) (b0 b1 b2 b3 b4 b5 b6 : Burst) (kind : BusErrorKind) (rest : List Reply),
    s.env.replies =
      .ok b0 :: .ok b1 :: .ok b2 :: .ok b3 :: .ok b4 :: .ok b5 :: .ok b6 :: .error kind :: rest →
    ∃ (t : State) (back : Byte), exec .init s = .next t ∧
      t.trace[8]? = some (.read s.busAddr 0x1C 1 (.bytes [back])) ∧
      (let e := back.extractLsb' 3 2;
        t.acc = { range := some e, scale := some (accTable e), valid := true, mism := decide (e ≠ s.reqA) }) ∧
      t.gyr = RangeCache.empty ∧ t.lstate = .unknown ∧ t.cc = .busError ∧ t.errs = true ∧ t.busy = false ∧
      t.errinfo = 0x1B17#16 ||| ((kindCode kind).setWidth 16 <<< 5) ∧ t.trace.countP BusEvent.isSettle = 3 ∧
      t.run = s.run ∧ t.env.replies = rest

/-- 41_state_machine.md R153: START clears bit 6 of 0x6B and no other bit, and sets RUN. -/
def Obligations.StartClearsSleepBit : Prop :=
  ∀ (s : State) (b0 b1 : Burst) (rest : List Reply), s.env.replies = .ok b0 :: .ok b1 :: rest →
    let env := { s.env with replies := rest }
    let old := (deviceRead env 0x6B b0)[0]
    exec .start s = .next { s.cleared with
      run := true
      lstate := if s.lstate = .configured ∨ s.lstate = .running ∨ s.lstate = .stopped then .running else .unknown
      cc := .ok, errinfo := 0, busy := false, settleTimer := 0, env := deviceWrite env 0x6B (old &&& 0xBF)
      trace := [.read s.busAddr 0x6B 1 (.bytes [old]), .write s.busAddr 0x6B (old &&& 0xBF) .ok, .settle] }

/-- 41_state_machine.md R154: STOP sets bit 6 of 0x6B and no other bit, and clears RUN. -/
def Obligations.StopSetsSleepBit : Prop :=
  ∀ (s : State) (b0 b1 : Burst) (rest : List Reply), s.env.replies = .ok b0 :: .ok b1 :: rest →
    let env := { s.env with replies := rest }
    let old := (deviceRead env 0x6B b0)[0]
    exec .stop s = .next { s.cleared with
      run := false
      lstate := if s.lstate = .configured ∨ s.lstate = .running ∨ s.lstate = .stopped then .stopped else .unknown
      cc := .ok, errinfo := 0, busy := false, settleTimer := 0, env := deviceWrite env 0x6B (old ||| 0x40)
      trace := [.read s.busAddr 0x6B 1 (.bytes [old]), .write s.busAddr 0x6B (old ||| 0x40) .ok, .settle] }

/-- 41_state_machine.md R157: PROBE tests BUS_ADDR in the scanned set and always completes OK. -/
def Obligations.ProbeTestsBusAddr : Prop :=
  ∀ s : State, ∃ present scans drawn,
    (∀ p rest, s.env.scans = p :: rest → present = p ∧ scans = rest ∧ drawn = s.env.drawn) ∧
    exec .probe s = .next { s.cleared with
      res := some (if present.getLsbD s.busAddr.toNat then 1 else 0), cc := .ok, errinfo := 0, busy := false
      env := { s.env with scans := scans, drawn := drawn }, trace := [.scan present] }

/-- 41_state_machine.md R158: CHKID compares register 0x75 with the constant 0x68, not with BUS_ADDR. -/
def Obligations.ChkidComparesConstant : Prop :=
  ∀ (s : State) (b : Burst) (rest : List Reply), s.env.replies = .ok b :: rest →
    let v := (deviceRead { s.env with replies := rest } 0x75 b)[0]
    exec .chkid s = .next { s.cleared with
      res := some (if v = 0x68 then 1 else 0), cc := .ok, errinfo := 0, busy := false
      env := { s.env with replies := rest }, trace := [.read s.busAddr 0x75 1 (.bytes [v])] }

/-! ### Measurement commands -/

/-- 42_measurement.md R189 to R191, R183: a decode command with a scale reads one burst of six bytes, decodes it
big-endian and scales each sample, rounding to the nearest. -/
def Obligations.TripleDecodesAndScales : Prop :=
  ∀ (addr : Byte) (sel : ScaleSel) (d : Div10) (s : State) (b : Burst) (rest : List Reply),
    (match sel with
      | .cached sensor => (s.cache sensor).valid = true ∧ (s.cache sensor).scale = some d
      | .table .accel r => d = accTable r
      | .table .gyro r => d = gyrTable r) →
    s.env.replies = .ok b :: rest →
    let bytes := deviceRead { s.env with replies := rest } addr b
    let x : Sample := bytes[0] ++ bytes[1]
    let y : Sample := bytes[2] ++ bytes[3]
    let z : Sample := bytes[4] ++ bytes[5]
    let scaled := fun v : Sample => BitVec.ofInt 32 ((2 * (v.toInt * 655360) + d.toNat) / (2 * d.toNat))
    let t := { s.cleared with
      rbuf := #v[some bytes[0], some bytes[1], some bytes[2], some bytes[3], some bytes[4], some bytes[5]], rlen := 6
      raw := #v[some x, some y, some z], out := #v[some (scaled x), some (scaled y), some (scaled z)]
      cc := .ok, errinfo := 0, busy := false, env := { s.env with replies := rest }
      trace := [.read s.busAddr addr 6 (.bytes bytes.toList)] }
    exec (.rdtriple addr sel) s = .next t ∧
    (addr = 0x3B → sel = .cached .accel → exec .getacc s = .next t) ∧
    (addr = 0x43 → sel = .cached .gyro → exec .getgyro s = .next t)

/-- 30_encoding.md R100: GETACC and GETGYRO are RDTRIPLE 0x3B, ACC and RDTRIPLE 0x43, GYR in every state and for
every answer of the environment. -/
def Obligations.GetaccGetgyroAreTriples : Prop :=
  ∀ s : State, exec .getacc s = exec (.rdtriple 0x3B (.cached .accel)) s ∧
    exec .getgyro s = exec (.rdtriple 0x43 (.cached .gyro)) s

/-- 42_measurement.md R188, 60_exceptions.md R213: a cached scale whose valid bit is 0 ends the command with
NO_SCALE, with no bus primitive and nothing else changed. -/
def Obligations.NoScaleWithoutValidBit : Prop :=
  ∀ (addr : Byte) (sensor : Sensor) (s : State), (s.cache sensor).valid = false →
    let t := { s.cleared with cc := .noScale, errs := true, errinfo := 0, busy := false }
    exec (.rdtriple addr (.cached sensor)) s = .next t ∧
    (sensor = .accel → exec .getacc s = .next t) ∧ (sensor = .gyro → exec .getgyro s = .next t)

/-- 42_measurement.md R186, R192: GETTEMP reads two bytes at 0x41 and needs no scale. -/
def Obligations.GettempConverts : Prop :=
  ∀ (s : State) (b : Burst) (rest : List Reply), s.env.replies = .ok b :: rest →
    let bytes := deviceRead { s.env with replies := rest } 0x41 b
    let raw : Sample := bytes[0] ++ bytes[1]
    exec .gettemp s = .next { s.cleared with
      rbuf := #v[some bytes[0], some bytes[1], none, none, none, none], rlen := 2, raw := #v[some raw, none, none]
      out := #v[some (BitVec.ofInt 32 ((2 * ((5 * raw.toInt + 62101) * 65536) + 1700) / (2 * 1700))), none, none]
      cc := .ok, errinfo := 0, busy := false, env := { s.env with replies := rest }
      trace := [.read s.busAddr 0x41 2 (.bytes [bytes[0], bytes[1]])] }

/-! ### Failing transactions -/

/-- 60_exceptions.md R211, R219: the commands whose first transaction is a read, when it fails, abort with nothing
written: STEP 0, DIR 0, FADDR the address. RMW, RESET, SETRANGE and INIT have by then dropped the caches their
rules say. -/
def Obligations.FirstReadFailureAborts : Prop :=
  ∀ (i : Instr) (addr : Byte) (n : Nat) (acc gyr : RangeCache) (s : State) (kind : BusErrorKind) (rest : List Reply),
    (match i with
      | .rdreg a count => i.wellFormed = true ∧ addr = a ∧ n = count.toNat ∧ acc = s.acc ∧ gyr = s.gyr
      | .rmw a _ _ => addr = a ∧ n = 1 ∧ acc = (if a = 0x1C ∨ a = 0x6B then RangeCache.empty else s.acc) ∧
          gyr = (if a = 0x1B ∨ a = 0x6B then RangeCache.empty else s.gyr)
      | .reset => addr = 0x6B ∧ n = 1 ∧ acc = RangeCache.empty ∧ gyr = RangeCache.empty
      | .init => addr = 0x6B ∧ n = 1 ∧ acc = RangeCache.empty ∧ gyr = RangeCache.empty
      | .start => addr = 0x6B ∧ n = 1 ∧ acc = s.acc ∧ gyr = s.gyr
      | .stop => addr = 0x6B ∧ n = 1 ∧ acc = s.acc ∧ gyr = s.gyr
      | .setrange .accel _ => addr = 0x1C ∧ n = 1 ∧ acc = RangeCache.empty ∧ gyr = s.gyr
      | .setrange .gyro _ => addr = 0x1B ∧ n = 1 ∧ acc = s.acc ∧ gyr = RangeCache.empty
      | .getrange .accel => addr = 0x1C ∧ n = 1 ∧ acc = s.acc ∧ gyr = s.gyr
      | .getrange .gyro => addr = 0x1B ∧ n = 1 ∧ acc = s.acc ∧ gyr = s.gyr
      | .chkid => addr = 0x75 ∧ n = 1 ∧ acc = s.acc ∧ gyr = s.gyr
      | .rdtriple a sel => (scaleOf s sel).isSome = true ∧ addr = a ∧ n = 6 ∧ acc = s.acc ∧ gyr = s.gyr
      | .getacc => (scaleOf s (.cached .accel)).isSome = true ∧ addr = 0x3B ∧ n = 6 ∧ acc = s.acc ∧ gyr = s.gyr
      | .getgyro => (scaleOf s (.cached .gyro)).isSome = true ∧ addr = 0x43 ∧ n = 6 ∧ acc = s.acc ∧ gyr = s.gyr
      | .gettemp => addr = 0x41 ∧ n = 2 ∧ acc = s.acc ∧ gyr = s.gyr
      | .bind _ _ _ => False
      | .wrreg _ _ => False
      | .wake => False
      | .probe => False) →
    s.env.replies = .error kind :: rest →
    exec i s = .next { s.cleared with
      acc := acc, gyr := gyr, lstate := .unknown, cc := .busError, errs := true, busy := false
      errinfo := (addr.setWidth 16 <<< 8) ||| ((kindCode kind).setWidth 16 <<< 5)
      env := { s.env with replies := rest }, trace := [.read s.busAddr addr n (.error kind)] }

/-- 60_exceptions.md R219, 20_memory.md R84, 40_register_access.md R120, R122, 41_state_machine.md R145 to R154: a write
that fails, in whichever command, ends it with BUS_ERROR, is not followed by a settle wait, and the device is not
written: WRREG and WAKE at STEP 0, RMW, RESET, START, STOP and SETRANGE at STEP 1, INIT at STEP 1, 2, 4 and 7. -/
def Obligations.WriteFailureAborts : Prop :=
  ∀ (s : State) (b0 b1 b2 b3 b4 b5 b6 : Burst) (kind : BusErrorKind) (rest : List Reply),
    let d := s.busAddr
    let env := { s.env with replies := rest }
    (s.env.replies = .error kind :: rest →
      (∀ addr v : Byte, ∃ t, exec (.wrreg addr v) s = .next t ∧ AbortedAtWrite s t 0 addr v kind [] env) ∧
      ∃ t, exec .wake s = .next t ∧ AbortedAtWrite s t 0 0x6B 0x01 kind [] env ∧
        t = { s.cleared with
          lstate := .unknown, cc := .busError, errs := true, busy := false, env := env, errinfo := t.errinfo
          trace := t.trace }) ∧
    (s.env.replies = .ok b0 :: .error kind :: rest →
      ∀ (i : Instr) (addr mask bits : Byte),
        i = .rmw addr mask bits ∨ (i = .reset ∧ addr = 0x6B ∧ mask = 0x00 ∧ bits = 0x80) ∨
          (i = .start ∧ addr = 0x6B ∧ mask = 0x40 ∧ bits = 0x00) ∨
          (i = .stop ∧ addr = 0x6B ∧ mask = 0x00 ∧ bits = 0x40) ∨
          (∃ r, i = .setrange .accel r ∧ addr = 0x1C ∧ mask = 0x18 ∧ bits = r.setWidth 8 <<< 3) ∨
          (∃ r, i = .setrange .gyro r ∧ addr = 0x1B ∧ mask = 0x18 ∧ bits = r.setWidth 8 <<< 3) ∨
          (i = .init ∧ addr = 0x6B ∧ mask = 0x00 ∧ bits = 0x80) →
        let old := (deviceRead env addr b0)[0]
        ∃ t, exec i s = .next t ∧
          AbortedAtWrite s t 1 addr ((old &&& ~~~mask) ||| bits) kind [.read d addr 1 (.bytes [old])] env) ∧
    (let old := (deviceRead env 0x6B b0)[0]
      let env1 := deviceWrite env 0x6B (old ||| 0x80)
      let before1 : List BusEvent := [.read d 0x6B 1 (.bytes [old]), .write d 0x6B (old ||| 0x80) .ok, .settle]
      let env2 := deviceWrite env1 0x6B 0x01
      let oldA := (deviceRead env2 0x1C b3)[0]
      let newA := (oldA &&& 0xE7#8) ||| (s.reqA.setWidth 8 <<< 3)
      let before2 := before1 ++ [.write d 0x6B 0x01 .ok, .settle, .read d 0x1C 1 (.bytes [oldA])]
      let env3 := deviceWrite env2 0x1C newA
      let backA := (deviceRead env3 0x1C b5)[0]
      let oldG := (deviceRead env3 0x1B b6)[0]
      let newG := (oldG &&& 0xE7#8) ||| (s.reqG.setWidth 8 <<< 3)
      let before3 := before2 ++ [.write d 0x1C newA .ok, .settle, .read d 0x1C 1 (.bytes [backA]),
        .read d 0x1B 1 (.bytes [oldG])]
      (s.env.replies = .ok b0 :: .ok b1 :: .error kind :: rest → ∃ t, exec .init s = .next t ∧
        AbortedAtWrite s t 2 0x6B 0x01 kind before1 env1 ∧ t.acc = RangeCache.empty ∧ t.gyr = RangeCache.empty) ∧
      (s.env.replies = .ok b0 :: .ok b1 :: .ok b2 :: .ok b3 :: .error kind :: rest → ∃ t, exec .init s = .next t ∧
        AbortedAtWrite s t 4 0x1C newA kind before2 env2 ∧ t.acc = RangeCache.empty ∧ t.gyr = RangeCache.empty) ∧
      (s.env.replies = .ok b0 :: .ok b1 :: .ok b2 :: .ok b3 :: .ok b4 :: .ok b5 :: .ok b6 :: .error kind :: rest →
        ∃ t, exec .init s = .next t ∧
          AbortedAtWrite s t 7 0x1B newG kind before3 env3 ∧ t.acc.valid = true ∧ t.gyr = RangeCache.empty))

/-- 41_state_machine.md R148, 60_exceptions.md R220: a SETRANGE that does not complete OK leaves its valid bit 0 and
its range and scale without value, and the other sub-sensor's cache untouched. -/
def Obligations.SetrangeAbortLeavesNoRange : Prop :=
  ∀ (sensor : Sensor) (r : RangeEnum) (s t : State), exec (.setrange sensor r) s = .next t →
    t.busy = true ∨ t.cc ≠ .ok →
    t.cache sensor = RangeCache.empty ∧
    (match sensor with | .accel => t.gyr = s.gyr | .gyro => t.acc = s.acc)

/-! ### Reference devices -/

/-- 20_memory.md R84: under DEV_PLAIN a successful WRREG stores its byte and leaves every other register, and a
successful RDREG that does not run past 0xFF returns the stored bytes. -/
def Obligations.PlainDeviceStoresAndReturns : Prop :=
  ∀ (s : State) (b : Burst) (rest : List Reply), s.env.device = .plain → Memory.wf s.env.sensor = true →
    s.env.replies = .ok b :: rest →
    (∀ addr byte : Byte, ∃ t, exec (.wrreg addr byte) s = .next t ∧ t.cc = .ok ∧
      memByte t.env.sensor addr.toNat = byte ∧ Memory.wf t.env.sensor = true ∧
      ∀ a, a ≠ addr.toNat → memByte t.env.sensor a = memByte s.env.sensor a) ∧
    (∀ (addr : Byte) (count : BitVec 3), 1 ≤ count.toNat → count.toNat ≤ 6 → addr.toNat + count.toNat ≤ 256 →
      ∃ t, exec (.rdreg addr count) s = .next t ∧ t.cc = .ok ∧ t.env.sensor = s.env.sensor ∧
        ∀ i : Fin 6, i.val < count.toNat → t.rbuf[i] = some (memByte s.env.sensor (addr.toNat + i.val)))

/-- 20_memory.md R85: DEV_COERCE(f, g) stores the range field of 0x1C through `f`, of 0x1B through `g`, and every
other bit and register as DEV_PLAIN. -/
def Obligations.CoercingDeviceStores : Prop :=
  ∀ (s : State) (f g : CoerceMap) (addr v : Byte) (b : Burst) (rest : List Reply),
    s.env.device = .coerce f g → Memory.wf s.env.sensor = true → s.env.replies = .ok b :: rest →
    ∃ t, exec (.wrreg addr v) s = .next t ∧ t.cc = .ok ∧
      memByte t.env.sensor addr.toNat =
        (if addr = 0x1C then (v &&& 0xE7#8) ||| ((f[(v.extractLsb' 3 2).toNat]'(v.extractLsb' 3 2).isLt).setWidth 8 <<< 3)
        else if addr = 0x1B then
          (v &&& 0xE7#8) ||| ((g[(v.extractLsb' 3 2).toNat]'(v.extractLsb' 3 2).isLt).setWidth 8 <<< 3)
        else v) ∧
      ∀ a, a ≠ addr.toNat → memByte t.env.sensor a = memByte s.env.sensor a

/-- 41_state_machine.md R155: under DEV_PLAIN a second START, STOP or INIT ends in the same block and sensor state as the
first, and makes the command's transactions and settle waits again; only the environment's script and the trace go on. -/
def Obligations.StartStopIdempotent : Prop :=
  ∀ (i : Instr) (s t u : State) (bursts : List Burst) (rest : List Reply),
    i = .start ∨ i = .stop ∨ i = .init →
    bursts.length = (if i = .init then 18 else 4) → s.env.replies = bursts.map .ok ++ rest →
    s.env.device = .plain → Memory.wf s.env.sensor = true →
    exec i s = .next t → exec i t = .next u →
    u.env.sensor = t.env.sensor ∧ u = { t with env := { t.env with replies := rest }, trace := u.trace } ∧
    t.cc = .ok ∧ transactions u.trace = (if i = .init then 9 else 2) ∧
    u.trace.countP BusEvent.isSettle = (if i = .init then 4 else 1)

/-- 42_measurement.md R194: under DEV_PLAIN, after SETRANGE A, r a GETRANGE A returns the stored range, which is the
one whose table entry ACC_SCALE holds; the same for the gyroscope. -/
def Obligations.ScaleMatchesRange : Prop :=
  ∀ (sensor : Sensor) (r : RangeEnum) (s : State) (b0 b1 b2 b3 : Burst) (rest : List Reply),
    s.env.device = .plain → Memory.wf s.env.sensor = true →
    s.env.replies = .ok b0 :: .ok b1 :: .ok b2 :: .ok b3 :: rest →
    ∃ t u, exec (.setrange sensor r) s = .next t ∧ exec (.getrange sensor) t = .next u ∧
      t.cache sensor = { range := some r, scale := some (scaleTable sensor r), valid := true, mism := false } ∧
      u.res = some (r.setWidth 8) ∧ u.cache sensor = t.cache sensor ∧
      scaleOf u (.cached sensor) = some (scaleTable sensor r)

/-! ### The decoder's arithmetic -/

/-- 42_measurement.md R180, R181: big-endian two's complement decoding, the encoding of a sample as two bytes, and the
round trip both ways. -/
def Obligations.SampleDecoding : Prop :=
  (∀ hi lo : Byte, (decode16 hi lo).toInt =
    if hi.toNat * 256 + lo.toNat < 32768 then (hi.toNat * 256 + lo.toNat : Int)
    else (hi.toNat * 256 + lo.toNat : Int) - 65536) ∧
  (∀ v : Sample,
    let w : Int := if 0 ≤ v.toInt then v.toInt else v.toInt + 65536
    ((encode16 v).1.toNat : Int) = w / 256 ∧ ((encode16 v).2.toNat : Int) = w % 256) ∧
  (∀ v : Sample, decode16 (encode16 v).1 (encode16 v).2 = v) ∧
  (∀ hi lo : Byte, encode16 (decode16 hi lo) = (hi, lo))

/-- 42_measurement.md R183: every accelerometer result is exact, `raw << (2 + enum)`. -/
def Obligations.AccelerometerExact : Prop :=
  ∀ (raw : Sample) (e : RangeEnum), (q16 raw (accTable e)).toInt = raw.toInt * 2 ^ (2 + e.toNat)

/-- 42_measurement.md R183: the output is within half a unit of the exact quotient, for every non-zero DIV10 (so
within 2^-17 of the physical value), and the temperature likewise (R186). -/
def Obligations.OutputsRoundToNearest : Prop :=
  (∀ (raw : Sample) (d : Div10), d ≠ 0 →
    -(d.toNat : Int) ≤ 2 * (q16Int raw d * d.toNat - raw.toInt * 655360) ∧
    2 * (q16Int raw d * d.toNat - raw.toInt * 655360) ≤ d.toNat) ∧
  (∀ raw : Sample,
    -1700 ≤ 2 * (qtempInt raw * 1700 - (5 * raw.toInt + 62101) * 65536) ∧
    2 * (qtempInt raw * 1700 - (5 * raw.toInt + 62101) * 65536) ≤ 1700)

/-- 42_measurement.md R184: no output overflows: OUT holds the exact integer, within the bounds the rule gives. -/
def Obligations.OutputsNeverOverflow : Prop :=
  (∀ (raw : Sample) (e : RangeEnum), (q16 raw (accTable e)).toInt = q16Int raw (accTable e) ∧
    -1048576 ≤ q16Int raw (accTable e) ∧ q16Int raw (accTable e) ≤ 1048544) ∧
  (∀ (raw : Sample) (e : RangeEnum), (q16 raw (gyrTable e)).toInt = q16Int raw (gyrTable e) ∧
    -130944125 ≤ q16Int raw (gyrTable e) ∧ q16Int raw (gyrTable e) ≤ 130940129) ∧
  (∀ raw : Sample, (qtemp raw).toInt = qtempInt raw ∧ -3922098 ≤ qtempInt raw ∧ qtempInt raw ≤ 8709966)

/-- 42_measurement.md R185: no output is a tie: `raw * 655360 / d` is never an odd multiple of one half, and neither
is the temperature's quotient; so an integer no farther than one half from the quotient is the output, whatever the
round-to-nearest convention. -/
def Obligations.NoRoundingTies : Prop :=
  (∀ (raw : Sample) (sensor : Sensor) (e : RangeEnum) (k : Int),
    let d : Int := (scaleTable sensor e).toNat
    2 * (raw.toInt * 655360) ≠ (2 * k + 1) * d ∧
    (-d ≤ 2 * (k * d - raw.toInt * 655360) → 2 * (k * d - raw.toInt * 655360) ≤ d →
      k = q16Int raw (scaleTable sensor e))) ∧
  (∀ (raw : Sample) (k : Int),
    2 * ((5 * raw.toInt + 62101) * 65536) ≠ (2 * k + 1) * 1700 ∧
    (-1700 ≤ 2 * (k * 1700 - (5 * raw.toInt + 62101) * 65536) →
      2 * (k * 1700 - (5 * raw.toInt + 62101) * 65536) ≤ 1700 → k = qtempInt raw))
end

