-- ==== Sys2Proof/Laws/Memory.lean ====
section
/-! SUPPORT. The laws of the sensor's register space: read after write, and every operation keeps the canonical
form. -/

namespace Sys2Proof.Machine

theorem memWfFrom_cons {low k : Nat} {b : Byte} {rest : Memory} :
    memWfFrom low ((k, b) :: rest) = true ↔
      low ≤ k ∧ k < 256 ∧ b ≠ unlistedByte ∧ memWfFrom (k + 1) rest = true := by
  simp [memWfFrom, and_assoc]

/-- A canonical memory stays canonical above a smaller bound. -/
theorem memWfFrom_mono {m : Memory} {low low' : Nat} (h : low' ≤ low) (hm : memWfFrom low m = true) :
    memWfFrom low' m = true := by
  cases m with
  | nil => rfl
  | cons c rest =>
    obtain ⟨k, b⟩ := c
    rw [memWfFrom_cons] at hm ⊢
    exact ⟨h.trans hm.1, hm.2⟩

/-- An address below every listed one is unlisted. -/
theorem memByte_below {m : Memory} {low a : Nat} (hm : memWfFrom low m = true) (ha : a < low) :
    memByte m a = unlistedByte := by
  induction m generalizing low with
  | nil => rfl
  | cons c rest ih =>
    obtain ⟨k, b⟩ := c
    rw [memWfFrom_cons] at hm
    rw [memByte, if_neg (by omega)]
    exact ih hm.2.2.2 (by omega)

/-- Storing keeps the canonical form. -/
theorem memStore_keeps_wfFrom {m : Memory} {low a : Nat} (b : Byte) (hm : memWfFrom low m = true)
    (hlow : low ≤ a) (ha : a < 256) : memWfFrom low (memStore m a b) = true := by
  induction m generalizing low with
  | nil =>
    unfold memStore
    split
    · rfl
    · rename_i hb
      exact memWfFrom_cons.2 ⟨hlow, ha, hb, rfl⟩
  | cons c rest ih =>
    obtain ⟨k, c⟩ := c
    have hm' := memWfFrom_cons.1 hm
    unfold memStore
    split
    · split
      · exact hm
      · rename_i hak hb
        exact memWfFrom_cons.2 ⟨hlow, ha, hb, memWfFrom_cons.2 ⟨hak, hm'.2⟩⟩
    · split
      · split
        · exact memWfFrom_mono (by omega) hm'.2.2.2
        · rename_i _ hak hb
          exact memWfFrom_cons.2 ⟨hlow, ha, hb, by subst hak; exact hm'.2.2.2⟩
      · exact memWfFrom_cons.2 ⟨hm'.1, hm'.2.1, hm'.2.2.1, ih hm'.2.2.2 (by omega)⟩

/-- Storing a byte of the sensor's space keeps the canonical form. -/
theorem memStore_wf {m : Memory} (a b : Byte) (hm : Memory.wf m = true) :
    Memory.wf (memStore m a.toNat b) = true :=
  memStore_keeps_wfFrom b hm (Nat.zero_le _) a.isLt

/-- A store leaves every other address. -/
theorem memByte_memStore_other (m : Memory) {a a' : Nat} (b : Byte) (h : a' ≠ a) :
    memByte (memStore m a b) a' = memByte m a' := by
  induction m with
  | nil =>
    unfold memStore
    split <;> simp [memByte, h]
  | cons c rest ih =>
    obtain ⟨k, c⟩ := c
    unfold memStore
    split
    · split <;> simp [memByte, h]
    · split
      · rename_i hak
        subst hak
        split <;> simp [memByte, h]
      · simp only [memByte, ih]

/-- A read after a store of the same address gives the byte stored. -/
theorem memByte_memStore_same {m : Memory} {low : Nat} (a : Nat) (b : Byte) (hm : memWfFrom low m = true) :
    memByte (memStore m a b) a = b := by
  induction m generalizing low with
  | nil =>
    unfold memStore
    split <;> simp_all [memByte]
  | cons c rest ih =>
    obtain ⟨k, c⟩ := c
    have hm' := memWfFrom_cons.1 hm
    unfold memStore
    split
    · rename_i hak
      split
      · rename_i hb
        rw [memByte, if_neg (by omega), hb]
        exact memByte_below hm'.2.2.2 (by omega)
      · simp [memByte]
    · split
      · rename_i hak
        subst hak
        split
        · rename_i hb
          rw [hb]
          exact memByte_below hm'.2.2.2 (by omega)
        · simp [memByte]
      · rename_i hak
        rw [memByte, if_neg hak]
        exact ih hm'.2.2.2

/-- Storing the byte an address holds changes nothing: equal memories are equal data. -/
theorem memStore_memByte {m : Memory} {low : Nat} (a : Nat) (hm : memWfFrom low m = true) :
    memStore m a (memByte m a) = m := by
  induction m generalizing low with
  | nil => simp [memStore, memByte]
  | cons c rest ih =>
    obtain ⟨k, c⟩ := c
    have hm' := memWfFrom_cons.1 hm
    by_cases hak : a = k
    · subst hak
      simp [memStore, memByte, hm'.2.2.1]
    · rw [memByte, if_neg hak]
      unfold memStore
      split
      · rw [if_pos (memByte_below hm'.2.2.2 (by omega))]
      · rw [ih hm'.2.2.2]

/-- The memory of the reset state is canonical. -/
theorem reset_memory_wf : Memory.wf State.reset.env.sensor = true := rfl

/-- A write of any device keeps the canonical form. -/
theorem deviceWrite_wf {e : Env} (addr v : Byte) (h : Memory.wf e.sensor = true) :
    Memory.wf (deviceWrite e addr v).sensor = true := by
  unfold deviceWrite
  split
  · exact h
  · exact memStore_wf addr v h
  · exact memStore_wf addr _ h

/-- A write of any device leaves every other register. -/
theorem deviceWrite_other (e : Env) (addr v : Byte) {a : Nat} (h : a ≠ addr.toNat) :
    memByte (deviceWrite e addr v).sensor a = memByte e.sensor a := by
  unfold deviceWrite
  split
  · rfl
  · exact memByte_memStore_other _ _ h
  · exact memByte_memStore_other _ _ h

/-- A write that never returned keeps the canonical form. -/
theorem deviceCutWrite_wf (landed : Bool) {e : Env} (addr v : Byte) (h : Memory.wf e.sensor = true) :
    Memory.wf (deviceCutWrite landed e addr v).sensor = true := by
  cases landed
  · exact h
  · exact deviceWrite_wf addr v h

/-- A write that never returned leaves every other register. -/
theorem deviceCutWrite_other (landed : Bool) (e : Env) (addr v : Byte) {a : Nat} (h : a ≠ addr.toNat) :
    memByte (deviceCutWrite landed e addr v).sensor a = memByte e.sensor a := by
  cases landed
  · rfl
  · exact deviceWrite_other e addr v h

@[simp] theorem deviceWrite_device (e : Env) (addr v : Byte) : (deviceWrite e addr v).device = e.device := by
  unfold deviceWrite; split <;> simp_all

@[simp] theorem deviceWrite_replies (e : Env) (addr v : Byte) : (deviceWrite e addr v).replies = e.replies := by
  unfold deviceWrite; split <;> rfl

@[simp] theorem deviceWrite_scans (e : Env) (addr v : Byte) : (deviceWrite e addr v).scans = e.scans := by
  unfold deviceWrite; split <;> rfl

@[simp] theorem deviceWrite_drawn (e : Env) (addr v : Byte) : (deviceWrite e addr v).drawn = e.drawn := by
  unfold deviceWrite; split <;> rfl

@[simp] theorem deviceCutWrite_device (landed : Bool) (e : Env) (addr v : Byte) :
    (deviceCutWrite landed e addr v).device = e.device := by cases landed <;> simp [deviceCutWrite]

@[simp] theorem deviceCutWrite_replies (landed : Bool) (e : Env) (addr v : Byte) :
    (deviceCutWrite landed e addr v).replies = e.replies := by cases landed <;> simp [deviceCutWrite]

@[simp] theorem deviceCutWrite_scans (landed : Bool) (e : Env) (addr v : Byte) :
    (deviceCutWrite landed e addr v).scans = e.scans := by cases landed <;> simp [deviceCutWrite]

@[simp] theorem deviceCutWrite_drawn (landed : Bool) (e : Env) (addr v : Byte) :
    (deviceCutWrite landed e addr v).drawn = e.drawn := by cases landed <;> simp [deviceCutWrite]

/-- A device's writes do not depend on the environment's script. -/
theorem deviceWrite_withReplies (e : Env) (addr v : Byte) (r : List Reply) :
    deviceWrite { e with replies := r } addr v = { deviceWrite e addr v with replies := r } := by
  cases e with
  | mk device sensor replies scans drawn => cases device <;> rfl

/-- What a device reads does not depend on the environment's script. -/
theorem deviceRead_withReplies (e : Env) (addr : Byte) (b : Burst) (r : List Reply) :
    deviceRead { e with replies := r } addr b = deviceRead e addr b := rfl

/-! ### Equal memories are equal data -/

/-- Two canonical memories that read alike everywhere are one. -/
theorem memory_ext {m m' : Memory} {low : Nat} (hm : memWfFrom low m = true) (hm' : memWfFrom low m' = true)
    (h : ∀ a, memByte m a = memByte m' a) : m = m' := by
  induction m generalizing m' low with
  | nil =>
    cases m' with
    | nil => rfl
    | cons c rest =>
      have hc := memWfFrom_cons.1 hm'
      exact absurd (by simpa [memByte] using h c.1) (Ne.symm hc.2.2.1)
  | cons c rest ih =>
    have hc := memWfFrom_cons.1 hm
    cases m' with
    | nil => exact absurd (by simpa [memByte] using h c.1) hc.2.2.1
    | cons c' rest' =>
      have hc' := memWfFrom_cons.1 hm'
      obtain ⟨k, b⟩ := c
      obtain ⟨k', b'⟩ := c'
      have hk := h k
      have hk' := h k'
      simp only [memByte, if_true] at hk hk'
      obtain hlt | rfl | hgt := Nat.lt_trichotomy k k'
      · rw [if_neg (by omega), memByte_below hc'.2.2.2 (by omega)] at hk
        exact absurd hk hc.2.2.1
      · rw [if_pos rfl] at hk
        subst hk
        rw [ih hc.2.2.2 hc'.2.2.2 fun a => ?_]
        by_cases ha : a = k
        · rw [ha, memByte_below hc.2.2.2 (by omega), memByte_below hc'.2.2.2 (by omega)]
        · simpa [memByte, ha] using h a
      · rw [if_neg (by omega), memByte_below hc.2.2.2 (by omega)] at hk'
        exact absurd hk'.symm hc'.2.2.1

/-- The later of two stores to one register stands. -/
theorem memStore_memStore {m : Memory} (addr b c : Byte) (hm : Memory.wf m = true) :
    memStore (memStore m addr.toNat b) addr.toNat c = memStore m addr.toNat c := by
  have hb := memStore_wf addr b hm
  refine memory_ext (memStore_wf addr c hb) (memStore_wf addr c hm) fun a => ?_
  by_cases ha : a = addr.toNat
  · rw [ha, memByte_memStore_same _ c hb, memByte_memStore_same _ c hm]
  · rw [memByte_memStore_other _ _ ha, memByte_memStore_other _ _ ha, memByte_memStore_other _ _ ha]

end Sys2Proof.Machine
end

