-- ==== Sys2Proof/Laws/State.lean ====
section
/-! SUPPORT. One lemma per field of State per named update, true by rfl: proofs cite these and never unfold a record
update. -/

namespace Sys2Proof.Machine

/-! Writing the accelerometer cache (R95). -/

@[simp] theorem setCache_accel_busAddr (s : State) (c : RangeCache) : (s.setCache .accel c).busAddr = s.busAddr := rfl
@[simp] theorem setCache_accel_reqA (s : State) (c : RangeCache) : (s.setCache .accel c).reqA = s.reqA := rfl
@[simp] theorem setCache_accel_reqG (s : State) (c : RangeCache) : (s.setCache .accel c).reqG = s.reqG := rfl
@[simp] theorem setCache_accel_acc (s : State) (c : RangeCache) : (s.setCache .accel c).acc = c := rfl
@[simp] theorem setCache_accel_gyr (s : State) (c : RangeCache) : (s.setCache .accel c).gyr = s.gyr := rfl
@[simp] theorem setCache_accel_run (s : State) (c : RangeCache) : (s.setCache .accel c).run = s.run := rfl
@[simp] theorem setCache_accel_lstate (s : State) (c : RangeCache) : (s.setCache .accel c).lstate = s.lstate := rfl
@[simp] theorem setCache_accel_cc (s : State) (c : RangeCache) : (s.setCache .accel c).cc = s.cc := rfl
@[simp] theorem setCache_accel_errs (s : State) (c : RangeCache) : (s.setCache .accel c).errs = s.errs := rfl
@[simp] theorem setCache_accel_busy (s : State) (c : RangeCache) : (s.setCache .accel c).busy = s.busy := rfl
@[simp] theorem setCache_accel_errinfo (s : State) (c : RangeCache) : (s.setCache .accel c).errinfo = s.errinfo := rfl
@[simp] theorem setCache_accel_rbuf (s : State) (c : RangeCache) : (s.setCache .accel c).rbuf = s.rbuf := rfl
@[simp] theorem setCache_accel_rlen (s : State) (c : RangeCache) : (s.setCache .accel c).rlen = s.rlen := rfl
@[simp] theorem setCache_accel_raw (s : State) (c : RangeCache) : (s.setCache .accel c).raw = s.raw := rfl
@[simp] theorem setCache_accel_out (s : State) (c : RangeCache) : (s.setCache .accel c).out = s.out := rfl
@[simp] theorem setCache_accel_res (s : State) (c : RangeCache) : (s.setCache .accel c).res = s.res := rfl
@[simp] theorem setCache_accel_settleTimer (s : State) (c : RangeCache) : (s.setCache .accel c).settleTimer = s.settleTimer := rfl
@[simp] theorem setCache_accel_trace (s : State) (c : RangeCache) : (s.setCache .accel c).trace = s.trace := rfl
@[simp] theorem setCache_accel_env (s : State) (c : RangeCache) : (s.setCache .accel c).env = s.env := rfl
@[simp] theorem setCache_accel_inputs (s : State) (c : RangeCache) : (s.setCache .accel c).inputs = s.inputs := rfl
@[simp] theorem setCache_accel_hostData (s : State) (c : RangeCache) : (s.setCache .accel c).hostData = s.hostData := rfl

/-! Writing the gyroscope cache (R95). -/

@[simp] theorem setCache_gyro_busAddr (s : State) (c : RangeCache) : (s.setCache .gyro c).busAddr = s.busAddr := rfl
@[simp] theorem setCache_gyro_reqA (s : State) (c : RangeCache) : (s.setCache .gyro c).reqA = s.reqA := rfl
@[simp] theorem setCache_gyro_reqG (s : State) (c : RangeCache) : (s.setCache .gyro c).reqG = s.reqG := rfl
@[simp] theorem setCache_gyro_acc (s : State) (c : RangeCache) : (s.setCache .gyro c).acc = s.acc := rfl
@[simp] theorem setCache_gyro_gyr (s : State) (c : RangeCache) : (s.setCache .gyro c).gyr = c := rfl
@[simp] theorem setCache_gyro_run (s : State) (c : RangeCache) : (s.setCache .gyro c).run = s.run := rfl
@[simp] theorem setCache_gyro_lstate (s : State) (c : RangeCache) : (s.setCache .gyro c).lstate = s.lstate := rfl
@[simp] theorem setCache_gyro_cc (s : State) (c : RangeCache) : (s.setCache .gyro c).cc = s.cc := rfl
@[simp] theorem setCache_gyro_errs (s : State) (c : RangeCache) : (s.setCache .gyro c).errs = s.errs := rfl
@[simp] theorem setCache_gyro_busy (s : State) (c : RangeCache) : (s.setCache .gyro c).busy = s.busy := rfl
@[simp] theorem setCache_gyro_errinfo (s : State) (c : RangeCache) : (s.setCache .gyro c).errinfo = s.errinfo := rfl
@[simp] theorem setCache_gyro_rbuf (s : State) (c : RangeCache) : (s.setCache .gyro c).rbuf = s.rbuf := rfl
@[simp] theorem setCache_gyro_rlen (s : State) (c : RangeCache) : (s.setCache .gyro c).rlen = s.rlen := rfl
@[simp] theorem setCache_gyro_raw (s : State) (c : RangeCache) : (s.setCache .gyro c).raw = s.raw := rfl
@[simp] theorem setCache_gyro_out (s : State) (c : RangeCache) : (s.setCache .gyro c).out = s.out := rfl
@[simp] theorem setCache_gyro_res (s : State) (c : RangeCache) : (s.setCache .gyro c).res = s.res := rfl
@[simp] theorem setCache_gyro_settleTimer (s : State) (c : RangeCache) : (s.setCache .gyro c).settleTimer = s.settleTimer := rfl
@[simp] theorem setCache_gyro_trace (s : State) (c : RangeCache) : (s.setCache .gyro c).trace = s.trace := rfl
@[simp] theorem setCache_gyro_env (s : State) (c : RangeCache) : (s.setCache .gyro c).env = s.env := rfl
@[simp] theorem setCache_gyro_inputs (s : State) (c : RangeCache) : (s.setCache .gyro c).inputs = s.inputs := rfl
@[simp] theorem setCache_gyro_hostData (s : State) (c : RangeCache) : (s.setCache .gyro c).hostData = s.hostData := rfl

/-! Recording a bus event (R14). -/

@[simp] theorem record_busAddr (s : State) (e : BusEvent) : (s.record e).busAddr = s.busAddr := rfl
@[simp] theorem record_reqA (s : State) (e : BusEvent) : (s.record e).reqA = s.reqA := rfl
@[simp] theorem record_reqG (s : State) (e : BusEvent) : (s.record e).reqG = s.reqG := rfl
@[simp] theorem record_acc (s : State) (e : BusEvent) : (s.record e).acc = s.acc := rfl
@[simp] theorem record_gyr (s : State) (e : BusEvent) : (s.record e).gyr = s.gyr := rfl
@[simp] theorem record_run (s : State) (e : BusEvent) : (s.record e).run = s.run := rfl
@[simp] theorem record_lstate (s : State) (e : BusEvent) : (s.record e).lstate = s.lstate := rfl
@[simp] theorem record_cc (s : State) (e : BusEvent) : (s.record e).cc = s.cc := rfl
@[simp] theorem record_errs (s : State) (e : BusEvent) : (s.record e).errs = s.errs := rfl
@[simp] theorem record_busy (s : State) (e : BusEvent) : (s.record e).busy = s.busy := rfl
@[simp] theorem record_errinfo (s : State) (e : BusEvent) : (s.record e).errinfo = s.errinfo := rfl
@[simp] theorem record_rbuf (s : State) (e : BusEvent) : (s.record e).rbuf = s.rbuf := rfl
@[simp] theorem record_rlen (s : State) (e : BusEvent) : (s.record e).rlen = s.rlen := rfl
@[simp] theorem record_raw (s : State) (e : BusEvent) : (s.record e).raw = s.raw := rfl
@[simp] theorem record_out (s : State) (e : BusEvent) : (s.record e).out = s.out := rfl
@[simp] theorem record_res (s : State) (e : BusEvent) : (s.record e).res = s.res := rfl
@[simp] theorem record_settleTimer (s : State) (e : BusEvent) : (s.record e).settleTimer = s.settleTimer := rfl
@[simp] theorem record_trace (s : State) (e : BusEvent) : (s.record e).trace = s.trace ++ [e] := rfl
@[simp] theorem record_env (s : State) (e : BusEvent) : (s.record e).env = s.env := rfl
@[simp] theorem record_inputs (s : State) (e : BusEvent) : (s.record e).inputs = s.inputs := rfl
@[simp] theorem record_hostData (s : State) (e : BusEvent) : (s.record e).hostData = s.hostData := rfl

/-! The settle wait (R225). -/

@[simp] theorem settle_busAddr (s : State) : (settle s).busAddr = s.busAddr := rfl
@[simp] theorem settle_reqA (s : State) : (settle s).reqA = s.reqA := rfl
@[simp] theorem settle_reqG (s : State) : (settle s).reqG = s.reqG := rfl
@[simp] theorem settle_acc (s : State) : (settle s).acc = s.acc := rfl
@[simp] theorem settle_gyr (s : State) : (settle s).gyr = s.gyr := rfl
@[simp] theorem settle_run (s : State) : (settle s).run = s.run := rfl
@[simp] theorem settle_lstate (s : State) : (settle s).lstate = s.lstate := rfl
@[simp] theorem settle_cc (s : State) : (settle s).cc = s.cc := rfl
@[simp] theorem settle_errs (s : State) : (settle s).errs = s.errs := rfl
@[simp] theorem settle_busy (s : State) : (settle s).busy = s.busy := rfl
@[simp] theorem settle_errinfo (s : State) : (settle s).errinfo = s.errinfo := rfl
@[simp] theorem settle_rbuf (s : State) : (settle s).rbuf = s.rbuf := rfl
@[simp] theorem settle_rlen (s : State) : (settle s).rlen = s.rlen := rfl
@[simp] theorem settle_raw (s : State) : (settle s).raw = s.raw := rfl
@[simp] theorem settle_out (s : State) : (settle s).out = s.out := rfl
@[simp] theorem settle_res (s : State) : (settle s).res = s.res := rfl
@[simp] theorem settle_settleTimer (s : State) : (settle s).settleTimer = 0 := rfl
@[simp] theorem settle_trace (s : State) : (settle s).trace = s.trace ++ [.settle] := rfl
@[simp] theorem settle_env (s : State) : (settle s).env = s.env := rfl
@[simp] theorem settle_inputs (s : State) : (settle s).inputs = s.inputs := rfl
@[simp] theorem settle_hostData (s : State) : (settle s).hostData = s.hostData := rfl

/-! Acceptance of a word (R91, R36). -/

@[simp] theorem accept_busAddr (s : State) : (accept s).busAddr = s.busAddr := rfl
@[simp] theorem accept_reqA (s : State) : (accept s).reqA = s.reqA := rfl
@[simp] theorem accept_reqG (s : State) : (accept s).reqG = s.reqG := rfl
@[simp] theorem accept_acc (s : State) : (accept s).acc = s.acc := rfl
@[simp] theorem accept_gyr (s : State) : (accept s).gyr = s.gyr := rfl
@[simp] theorem accept_run (s : State) : (accept s).run = s.run := rfl
@[simp] theorem accept_lstate (s : State) : (accept s).lstate = s.lstate := rfl
@[simp] theorem accept_cc (s : State) : (accept s).cc = s.cc := rfl
@[simp] theorem accept_errs (s : State) : (accept s).errs = s.errs := rfl
@[simp] theorem accept_busy (s : State) : (accept s).busy = true := rfl
@[simp] theorem accept_errinfo (s : State) : (accept s).errinfo = s.errinfo := rfl
@[simp] theorem accept_rbuf (s : State) : (accept s).rbuf = #v[none, none, none, none, none, none] := rfl
@[simp] theorem accept_rlen (s : State) : (accept s).rlen = 0 := rfl
@[simp] theorem accept_raw (s : State) : (accept s).raw = #v[none, none, none] := rfl
@[simp] theorem accept_out (s : State) : (accept s).out = #v[none, none, none] := rfl
@[simp] theorem accept_res (s : State) : (accept s).res = none := rfl
@[simp] theorem accept_settleTimer (s : State) : (accept s).settleTimer = s.settleTimer := rfl
@[simp] theorem accept_trace (s : State) : (accept s).trace = [] := rfl
@[simp] theorem accept_env (s : State) : (accept s).env = s.env := rfl
@[simp] theorem accept_inputs (s : State) : (accept s).inputs = s.inputs := rfl
@[simp] theorem accept_hostData (s : State) : (accept s).hostData = s.hostData := rfl

/-! Completion (R210). -/

@[simp] theorem complete_busAddr (s : State) (code : Completion) (info : BitVec 16) : (complete code info s).busAddr = s.busAddr := rfl
@[simp] theorem complete_reqA (s : State) (code : Completion) (info : BitVec 16) : (complete code info s).reqA = s.reqA := rfl
@[simp] theorem complete_reqG (s : State) (code : Completion) (info : BitVec 16) : (complete code info s).reqG = s.reqG := rfl
@[simp] theorem complete_acc (s : State) (code : Completion) (info : BitVec 16) : (complete code info s).acc = s.acc := rfl
@[simp] theorem complete_gyr (s : State) (code : Completion) (info : BitVec 16) : (complete code info s).gyr = s.gyr := rfl
@[simp] theorem complete_run (s : State) (code : Completion) (info : BitVec 16) : (complete code info s).run = s.run := rfl
@[simp] theorem complete_lstate (s : State) (code : Completion) (info : BitVec 16) : (complete code info s).lstate = s.lstate := rfl
@[simp] theorem complete_cc (s : State) (code : Completion) (info : BitVec 16) : (complete code info s).cc = code := rfl
@[simp] theorem complete_errs (s : State) (code : Completion) (info : BitVec 16) : (complete code info s).errs = (s.errs || decide (code ≠ .ok)) := rfl
@[simp] theorem complete_busy (s : State) (code : Completion) (info : BitVec 16) : (complete code info s).busy = false := rfl
@[simp] theorem complete_errinfo (s : State) (code : Completion) (info : BitVec 16) : (complete code info s).errinfo = info := rfl
@[simp] theorem complete_rbuf (s : State) (code : Completion) (info : BitVec 16) : (complete code info s).rbuf = s.rbuf := rfl
@[simp] theorem complete_rlen (s : State) (code : Completion) (info : BitVec 16) : (complete code info s).rlen = s.rlen := rfl
@[simp] theorem complete_raw (s : State) (code : Completion) (info : BitVec 16) : (complete code info s).raw = s.raw := rfl
@[simp] theorem complete_out (s : State) (code : Completion) (info : BitVec 16) : (complete code info s).out = s.out := rfl
@[simp] theorem complete_res (s : State) (code : Completion) (info : BitVec 16) : (complete code info s).res = s.res := rfl
@[simp] theorem complete_settleTimer (s : State) (code : Completion) (info : BitVec 16) : (complete code info s).settleTimer = s.settleTimer := rfl
@[simp] theorem complete_trace (s : State) (code : Completion) (info : BitVec 16) : (complete code info s).trace = s.trace := rfl
@[simp] theorem complete_env (s : State) (code : Completion) (info : BitVec 16) : (complete code info s).env = s.env := rfl
@[simp] theorem complete_inputs (s : State) (code : Completion) (info : BitVec 16) : (complete code info s).inputs = s.inputs := rfl
@[simp] theorem complete_hostData (s : State) (code : Completion) (info : BitVec 16) : (complete code info s).hostData = s.hostData := rfl

/-! The abort (R219). -/

@[simp] theorem abort_busAddr (s : State) (f : Failure) : (abort f s).busAddr = s.busAddr := rfl
@[simp] theorem abort_reqA (s : State) (f : Failure) : (abort f s).reqA = s.reqA := rfl
@[simp] theorem abort_reqG (s : State) (f : Failure) : (abort f s).reqG = s.reqG := rfl
@[simp] theorem abort_acc (s : State) (f : Failure) : (abort f s).acc = s.acc := rfl
@[simp] theorem abort_gyr (s : State) (f : Failure) : (abort f s).gyr = s.gyr := rfl
@[simp] theorem abort_run (s : State) (f : Failure) : (abort f s).run = s.run := rfl
@[simp] theorem abort_lstate (s : State) (f : Failure) : (abort f s).lstate = .unknown := rfl
@[simp] theorem abort_cc (s : State) (f : Failure) : (abort f s).cc = .busError := rfl
@[simp] theorem abort_errs (s : State) (f : Failure) : (abort f s).errs = true := by simp [abort, complete]
@[simp] theorem abort_busy (s : State) (f : Failure) : (abort f s).busy = false := rfl
@[simp] theorem abort_errinfo (s : State) (f : Failure) : (abort f s).errinfo = errinfoWord f.step f.dir f.addr f.kind := rfl
@[simp] theorem abort_rbuf (s : State) (f : Failure) : (abort f s).rbuf = s.rbuf := rfl
@[simp] theorem abort_rlen (s : State) (f : Failure) : (abort f s).rlen = s.rlen := rfl
@[simp] theorem abort_raw (s : State) (f : Failure) : (abort f s).raw = s.raw := rfl
@[simp] theorem abort_out (s : State) (f : Failure) : (abort f s).out = s.out := rfl
@[simp] theorem abort_res (s : State) (f : Failure) : (abort f s).res = s.res := rfl
@[simp] theorem abort_settleTimer (s : State) (f : Failure) : (abort f s).settleTimer = s.settleTimer := rfl
@[simp] theorem abort_trace (s : State) (f : Failure) : (abort f s).trace = s.trace := rfl
@[simp] theorem abort_env (s : State) (f : Failure) : (abort f s).env = s.env := rfl
@[simp] theorem abort_inputs (s : State) (f : Failure) : (abort f s).inputs = s.inputs := rfl
@[simp] theorem abort_hostData (s : State) (f : Failure) : (abort f s).hostData = s.hostData := rfl

/-! The scalar result (R40). -/

@[simp] theorem setRes_busAddr (s : State) (v : Byte) : (setRes v s).busAddr = s.busAddr := rfl
@[simp] theorem setRes_reqA (s : State) (v : Byte) : (setRes v s).reqA = s.reqA := rfl
@[simp] theorem setRes_reqG (s : State) (v : Byte) : (setRes v s).reqG = s.reqG := rfl
@[simp] theorem setRes_acc (s : State) (v : Byte) : (setRes v s).acc = s.acc := rfl
@[simp] theorem setRes_gyr (s : State) (v : Byte) : (setRes v s).gyr = s.gyr := rfl
@[simp] theorem setRes_run (s : State) (v : Byte) : (setRes v s).run = s.run := rfl
@[simp] theorem setRes_lstate (s : State) (v : Byte) : (setRes v s).lstate = s.lstate := rfl
@[simp] theorem setRes_cc (s : State) (v : Byte) : (setRes v s).cc = s.cc := rfl
@[simp] theorem setRes_errs (s : State) (v : Byte) : (setRes v s).errs = s.errs := rfl
@[simp] theorem setRes_busy (s : State) (v : Byte) : (setRes v s).busy = s.busy := rfl
@[simp] theorem setRes_errinfo (s : State) (v : Byte) : (setRes v s).errinfo = s.errinfo := rfl
@[simp] theorem setRes_rbuf (s : State) (v : Byte) : (setRes v s).rbuf = s.rbuf := rfl
@[simp] theorem setRes_rlen (s : State) (v : Byte) : (setRes v s).rlen = s.rlen := rfl
@[simp] theorem setRes_raw (s : State) (v : Byte) : (setRes v s).raw = s.raw := rfl
@[simp] theorem setRes_out (s : State) (v : Byte) : (setRes v s).out = s.out := rfl
@[simp] theorem setRes_res (s : State) (v : Byte) : (setRes v s).res = some v := rfl
@[simp] theorem setRes_settleTimer (s : State) (v : Byte) : (setRes v s).settleTimer = s.settleTimer := rfl
@[simp] theorem setRes_trace (s : State) (v : Byte) : (setRes v s).trace = s.trace := rfl
@[simp] theorem setRes_env (s : State) (v : Byte) : (setRes v s).env = s.env := rfl
@[simp] theorem setRes_inputs (s : State) (v : Byte) : (setRes v s).inputs = s.inputs := rfl
@[simp] theorem setRes_hostData (s : State) (v : Byte) : (setRes v s).hostData = s.hostData := rfl

/-! The bytes read (R37). -/

@[simp] theorem setRbuf_busAddr (s : State) (n : Nat) (b : Burst) : (setRbuf n b s).busAddr = s.busAddr := rfl
@[simp] theorem setRbuf_reqA (s : State) (n : Nat) (b : Burst) : (setRbuf n b s).reqA = s.reqA := rfl
@[simp] theorem setRbuf_reqG (s : State) (n : Nat) (b : Burst) : (setRbuf n b s).reqG = s.reqG := rfl
@[simp] theorem setRbuf_acc (s : State) (n : Nat) (b : Burst) : (setRbuf n b s).acc = s.acc := rfl
@[simp] theorem setRbuf_gyr (s : State) (n : Nat) (b : Burst) : (setRbuf n b s).gyr = s.gyr := rfl
@[simp] theorem setRbuf_run (s : State) (n : Nat) (b : Burst) : (setRbuf n b s).run = s.run := rfl
@[simp] theorem setRbuf_lstate (s : State) (n : Nat) (b : Burst) : (setRbuf n b s).lstate = s.lstate := rfl
@[simp] theorem setRbuf_cc (s : State) (n : Nat) (b : Burst) : (setRbuf n b s).cc = s.cc := rfl
@[simp] theorem setRbuf_errs (s : State) (n : Nat) (b : Burst) : (setRbuf n b s).errs = s.errs := rfl
@[simp] theorem setRbuf_busy (s : State) (n : Nat) (b : Burst) : (setRbuf n b s).busy = s.busy := rfl
@[simp] theorem setRbuf_errinfo (s : State) (n : Nat) (b : Burst) : (setRbuf n b s).errinfo = s.errinfo := rfl
@[simp] theorem setRbuf_rbuf (s : State) (n : Nat) (b : Burst) : (setRbuf n b s).rbuf = Vector.ofFn fun i : Fin 6 => if i.val < n then some b[i] else none := rfl
@[simp] theorem setRbuf_rlen (s : State) (n : Nat) (b : Burst) : (setRbuf n b s).rlen = BitVec.ofNat 3 n := rfl
@[simp] theorem setRbuf_raw (s : State) (n : Nat) (b : Burst) : (setRbuf n b s).raw = s.raw := rfl
@[simp] theorem setRbuf_out (s : State) (n : Nat) (b : Burst) : (setRbuf n b s).out = s.out := rfl
@[simp] theorem setRbuf_res (s : State) (n : Nat) (b : Burst) : (setRbuf n b s).res = s.res := rfl
@[simp] theorem setRbuf_settleTimer (s : State) (n : Nat) (b : Burst) : (setRbuf n b s).settleTimer = s.settleTimer := rfl
@[simp] theorem setRbuf_trace (s : State) (n : Nat) (b : Burst) : (setRbuf n b s).trace = s.trace := rfl
@[simp] theorem setRbuf_env (s : State) (n : Nat) (b : Burst) : (setRbuf n b s).env = s.env := rfl
@[simp] theorem setRbuf_inputs (s : State) (n : Nat) (b : Burst) : (setRbuf n b s).inputs = s.inputs := rfl
@[simp] theorem setRbuf_hostData (s : State) (n : Nat) (b : Burst) : (setRbuf n b s).hostData = s.hostData := rfl

/-! Both caches lose their values (R26). -/

@[simp] theorem dropCaches_busAddr (s : State) : (dropCaches s).busAddr = s.busAddr := rfl
@[simp] theorem dropCaches_reqA (s : State) : (dropCaches s).reqA = s.reqA := rfl
@[simp] theorem dropCaches_reqG (s : State) : (dropCaches s).reqG = s.reqG := rfl
@[simp] theorem dropCaches_acc (s : State) : (dropCaches s).acc = RangeCache.empty := rfl
@[simp] theorem dropCaches_gyr (s : State) : (dropCaches s).gyr = RangeCache.empty := rfl
@[simp] theorem dropCaches_run (s : State) : (dropCaches s).run = s.run := rfl
@[simp] theorem dropCaches_lstate (s : State) : (dropCaches s).lstate = s.lstate := rfl
@[simp] theorem dropCaches_cc (s : State) : (dropCaches s).cc = s.cc := rfl
@[simp] theorem dropCaches_errs (s : State) : (dropCaches s).errs = s.errs := rfl
@[simp] theorem dropCaches_busy (s : State) : (dropCaches s).busy = s.busy := rfl
@[simp] theorem dropCaches_errinfo (s : State) : (dropCaches s).errinfo = s.errinfo := rfl
@[simp] theorem dropCaches_rbuf (s : State) : (dropCaches s).rbuf = s.rbuf := rfl
@[simp] theorem dropCaches_rlen (s : State) : (dropCaches s).rlen = s.rlen := rfl
@[simp] theorem dropCaches_raw (s : State) : (dropCaches s).raw = s.raw := rfl
@[simp] theorem dropCaches_out (s : State) : (dropCaches s).out = s.out := rfl
@[simp] theorem dropCaches_res (s : State) : (dropCaches s).res = s.res := rfl
@[simp] theorem dropCaches_settleTimer (s : State) : (dropCaches s).settleTimer = s.settleTimer := rfl
@[simp] theorem dropCaches_trace (s : State) : (dropCaches s).trace = s.trace := rfl
@[simp] theorem dropCaches_env (s : State) : (dropCaches s).env = s.env := rfl
@[simp] theorem dropCaches_inputs (s : State) : (dropCaches s).inputs = s.inputs := rfl
@[simp] theorem dropCaches_hostData (s : State) : (dropCaches s).hostData = s.hostData := rfl

/-! Block reset (R240). -/

@[simp] theorem blockReset_busAddr (s : State) : (blockReset s).busAddr = State.reset.busAddr := rfl
@[simp] theorem blockReset_reqA (s : State) : (blockReset s).reqA = State.reset.reqA := rfl
@[simp] theorem blockReset_reqG (s : State) : (blockReset s).reqG = State.reset.reqG := rfl
@[simp] theorem blockReset_acc (s : State) : (blockReset s).acc = State.reset.acc := rfl
@[simp] theorem blockReset_gyr (s : State) : (blockReset s).gyr = State.reset.gyr := rfl
@[simp] theorem blockReset_run (s : State) : (blockReset s).run = State.reset.run := rfl
@[simp] theorem blockReset_lstate (s : State) : (blockReset s).lstate = State.reset.lstate := rfl
@[simp] theorem blockReset_cc (s : State) : (blockReset s).cc = State.reset.cc := rfl
@[simp] theorem blockReset_errs (s : State) : (blockReset s).errs = State.reset.errs := rfl
@[simp] theorem blockReset_busy (s : State) : (blockReset s).busy = State.reset.busy := rfl
@[simp] theorem blockReset_errinfo (s : State) : (blockReset s).errinfo = State.reset.errinfo := rfl
@[simp] theorem blockReset_rbuf (s : State) : (blockReset s).rbuf = State.reset.rbuf := rfl
@[simp] theorem blockReset_rlen (s : State) : (blockReset s).rlen = State.reset.rlen := rfl
@[simp] theorem blockReset_raw (s : State) : (blockReset s).raw = State.reset.raw := rfl
@[simp] theorem blockReset_out (s : State) : (blockReset s).out = State.reset.out := rfl
@[simp] theorem blockReset_res (s : State) : (blockReset s).res = State.reset.res := rfl
@[simp] theorem blockReset_settleTimer (s : State) : (blockReset s).settleTimer = State.reset.settleTimer := rfl
@[simp] theorem blockReset_trace (s : State) : (blockReset s).trace = State.reset.trace := rfl
@[simp] theorem blockReset_env (s : State) : (blockReset s).env = s.env := rfl
@[simp] theorem blockReset_inputs (s : State) : (blockReset s).inputs = s.inputs := rfl
@[simp] theorem blockReset_hostData (s : State) : (blockReset s).hostData = s.hostData := rfl

/-! What acceptance leaves of results and trace. -/

@[simp] theorem cleared_busAddr (s : State) : (s.cleared).busAddr = s.busAddr := rfl
@[simp] theorem cleared_reqA (s : State) : (s.cleared).reqA = s.reqA := rfl
@[simp] theorem cleared_reqG (s : State) : (s.cleared).reqG = s.reqG := rfl
@[simp] theorem cleared_acc (s : State) : (s.cleared).acc = s.acc := rfl
@[simp] theorem cleared_gyr (s : State) : (s.cleared).gyr = s.gyr := rfl
@[simp] theorem cleared_run (s : State) : (s.cleared).run = s.run := rfl
@[simp] theorem cleared_lstate (s : State) : (s.cleared).lstate = s.lstate := rfl
@[simp] theorem cleared_cc (s : State) : (s.cleared).cc = s.cc := rfl
@[simp] theorem cleared_errs (s : State) : (s.cleared).errs = s.errs := rfl
@[simp] theorem cleared_busy (s : State) : (s.cleared).busy = s.busy := rfl
@[simp] theorem cleared_errinfo (s : State) : (s.cleared).errinfo = s.errinfo := rfl
@[simp] theorem cleared_rbuf (s : State) : (s.cleared).rbuf = #v[none, none, none, none, none, none] := rfl
@[simp] theorem cleared_rlen (s : State) : (s.cleared).rlen = 0 := rfl
@[simp] theorem cleared_raw (s : State) : (s.cleared).raw = #v[none, none, none] := rfl
@[simp] theorem cleared_out (s : State) : (s.cleared).out = #v[none, none, none] := rfl
@[simp] theorem cleared_res (s : State) : (s.cleared).res = none := rfl
@[simp] theorem cleared_settleTimer (s : State) : (s.cleared).settleTimer = s.settleTimer := rfl
@[simp] theorem cleared_trace (s : State) : (s.cleared).trace = [] := rfl
@[simp] theorem cleared_env (s : State) : (s.cleared).env = s.env := rfl
@[simp] theorem cleared_inputs (s : State) : (s.cleared).inputs = s.inputs := rfl
@[simp] theorem cleared_hostData (s : State) : (s.cleared).hostData = s.hostData := rfl

/-! A cache read back after a write of it (R95). -/

@[simp] theorem cache_setCache_same (s : State) (sensor : Sensor) (c : RangeCache) :
    (s.setCache sensor c).cache sensor = c := by cases sensor <;> rfl

@[simp] theorem cache_accel (s : State) : s.cache .accel = s.acc := rfl
@[simp] theorem cache_gyro (s : State) : s.cache .gyro = s.gyr := rfl

@[simp] theorem dropCache_accel (s : State) : dropCache .accel s = s.setCache .accel RangeCache.empty := rfl
@[simp] theorem dropCache_gyro (s : State) : dropCache .gyro s = s.setCache .gyro RangeCache.empty := rfl

/-! A cache dropped, and a read-back stored, of either sub-sensor (R26, R148): every field but the caches and LSTATE. -/

@[simp] theorem dropCache_busAddr (sensor : Sensor) (s : State) : (dropCache sensor s).busAddr = s.busAddr := by
  cases sensor <;> rfl
@[simp] theorem dropCache_reqA (sensor : Sensor) (s : State) : (dropCache sensor s).reqA = s.reqA := by
  cases sensor <;> rfl
@[simp] theorem dropCache_reqG (sensor : Sensor) (s : State) : (dropCache sensor s).reqG = s.reqG := by
  cases sensor <;> rfl
@[simp] theorem dropCache_run (sensor : Sensor) (s : State) : (dropCache sensor s).run = s.run := by
  cases sensor <;> rfl
@[simp] theorem dropCache_lstate (sensor : Sensor) (s : State) : (dropCache sensor s).lstate = s.lstate := by
  cases sensor <;> rfl
@[simp] theorem dropCache_cc (sensor : Sensor) (s : State) : (dropCache sensor s).cc = s.cc := by
  cases sensor <;> rfl
@[simp] theorem dropCache_errs (sensor : Sensor) (s : State) : (dropCache sensor s).errs = s.errs := by
  cases sensor <;> rfl
@[simp] theorem dropCache_busy (sensor : Sensor) (s : State) : (dropCache sensor s).busy = s.busy := by
  cases sensor <;> rfl
@[simp] theorem dropCache_errinfo (sensor : Sensor) (s : State) : (dropCache sensor s).errinfo = s.errinfo := by
  cases sensor <;> rfl
@[simp] theorem dropCache_rbuf (sensor : Sensor) (s : State) : (dropCache sensor s).rbuf = s.rbuf := by
  cases sensor <;> rfl
@[simp] theorem dropCache_rlen (sensor : Sensor) (s : State) : (dropCache sensor s).rlen = s.rlen := by
  cases sensor <;> rfl
@[simp] theorem dropCache_raw (sensor : Sensor) (s : State) : (dropCache sensor s).raw = s.raw := by
  cases sensor <;> rfl
@[simp] theorem dropCache_out (sensor : Sensor) (s : State) : (dropCache sensor s).out = s.out := by
  cases sensor <;> rfl
@[simp] theorem dropCache_res (sensor : Sensor) (s : State) : (dropCache sensor s).res = s.res := by
  cases sensor <;> rfl
@[simp] theorem dropCache_settleTimer (sensor : Sensor) (s : State) : (dropCache sensor s).settleTimer = s.settleTimer := by
  cases sensor <;> rfl
@[simp] theorem dropCache_trace (sensor : Sensor) (s : State) : (dropCache sensor s).trace = s.trace := by
  cases sensor <;> rfl
@[simp] theorem dropCache_env (sensor : Sensor) (s : State) : (dropCache sensor s).env = s.env := by
  cases sensor <;> rfl
@[simp] theorem dropCache_inputs (sensor : Sensor) (s : State) : (dropCache sensor s).inputs = s.inputs := by
  cases sensor <;> rfl
@[simp] theorem dropCache_hostData (sensor : Sensor) (s : State) : (dropCache sensor s).hostData = s.hostData := by
  cases sensor <;> rfl

@[simp] theorem storeReadBack_busAddr (sensor : Sensor) (r e : RangeEnum) (s : State) :
    (storeReadBack sensor r e s).busAddr = s.busAddr := by cases sensor <;> rfl
@[simp] theorem storeReadBack_reqA (sensor : Sensor) (r e : RangeEnum) (s : State) :
    (storeReadBack sensor r e s).reqA = s.reqA := by cases sensor <;> rfl
@[simp] theorem storeReadBack_reqG (sensor : Sensor) (r e : RangeEnum) (s : State) :
    (storeReadBack sensor r e s).reqG = s.reqG := by cases sensor <;> rfl
@[simp] theorem storeReadBack_run (sensor : Sensor) (r e : RangeEnum) (s : State) :
    (storeReadBack sensor r e s).run = s.run := by cases sensor <;> rfl
@[simp] theorem storeReadBack_cc (sensor : Sensor) (r e : RangeEnum) (s : State) :
    (storeReadBack sensor r e s).cc = s.cc := by cases sensor <;> rfl
@[simp] theorem storeReadBack_errs (sensor : Sensor) (r e : RangeEnum) (s : State) :
    (storeReadBack sensor r e s).errs = s.errs := by cases sensor <;> rfl
@[simp] theorem storeReadBack_busy (sensor : Sensor) (r e : RangeEnum) (s : State) :
    (storeReadBack sensor r e s).busy = s.busy := by cases sensor <;> rfl
@[simp] theorem storeReadBack_errinfo (sensor : Sensor) (r e : RangeEnum) (s : State) :
    (storeReadBack sensor r e s).errinfo = s.errinfo := by cases sensor <;> rfl
@[simp] theorem storeReadBack_rbuf (sensor : Sensor) (r e : RangeEnum) (s : State) :
    (storeReadBack sensor r e s).rbuf = s.rbuf := by cases sensor <;> rfl
@[simp] theorem storeReadBack_rlen (sensor : Sensor) (r e : RangeEnum) (s : State) :
    (storeReadBack sensor r e s).rlen = s.rlen := by cases sensor <;> rfl
@[simp] theorem storeReadBack_raw (sensor : Sensor) (r e : RangeEnum) (s : State) :
    (storeReadBack sensor r e s).raw = s.raw := by cases sensor <;> rfl
@[simp] theorem storeReadBack_out (sensor : Sensor) (r e : RangeEnum) (s : State) :
    (storeReadBack sensor r e s).out = s.out := by cases sensor <;> rfl
@[simp] theorem storeReadBack_res (sensor : Sensor) (r e : RangeEnum) (s : State) :
    (storeReadBack sensor r e s).res = s.res := by cases sensor <;> rfl
@[simp] theorem storeReadBack_settleTimer (sensor : Sensor) (r e : RangeEnum) (s : State) :
    (storeReadBack sensor r e s).settleTimer = s.settleTimer := by cases sensor <;> rfl
@[simp] theorem storeReadBack_trace (sensor : Sensor) (r e : RangeEnum) (s : State) :
    (storeReadBack sensor r e s).trace = s.trace := by cases sensor <;> rfl
@[simp] theorem storeReadBack_env (sensor : Sensor) (r e : RangeEnum) (s : State) :
    (storeReadBack sensor r e s).env = s.env := by cases sensor <;> rfl
@[simp] theorem storeReadBack_inputs (sensor : Sensor) (r e : RangeEnum) (s : State) :
    (storeReadBack sensor r e s).inputs = s.inputs := by cases sensor <;> rfl
@[simp] theorem storeReadBack_hostData (sensor : Sensor) (r e : RangeEnum) (s : State) :
    (storeReadBack sensor r e s).hostData = s.hostData := by cases sensor <;> rfl

/-- Acceptance is the cleared state with BUSY = 1 (R91). -/
theorem accept_eq_cleared (s : State) : accept s = { s.cleared with busy := true } := rfl

end Sys2Proof.Machine
end

