-- ==== Sys2Proof/Laws/Bus.lean ====
section
/-! SUPPORT. One lemma per bus primitive that says everything it can do, the rules by which a command's body is
followed primitive by primitive, and the equations of a primitive whose answer is known. -/

namespace Sys2Proof.Machine

/-! ### What a flow can hold -/

/-- Each way a command can stand satisfies its own predicate. -/
def Flow.Sat {α : Type} (r : Flow α) (go : α → State → Prop) (noScale : State → Prop)
    (busError : Failure → State → Prop) (hung : State → Prop) : Prop :=
  match r with
  | .go a s => go a s
  | .noScale s => noScale s
  | .busError f s => busError f s
  | .hung s => hung s

section Sat
variable {α β : Type} {G : α → State → Prop} {G' : β → State → Prop} {N H : State → Prop}
  {E : Failure → State → Prop}

/-- Sequencing: the second part starts from what the first part leaves. -/
theorem Flow.Sat.andThen {r : Flow α} {next : α → State → Flow β} (hr : r.Sat G N E H)
    (hnext : ∀ a s, G a s → (next a s).Sat G' N E H) : (r.andThen next).Sat G' N E H := by
  cases r with
  | go a s => exact hnext a s hr
  | noScale s => exact hr
  | busError f s => exact hr
  | hung s => exact hr

/-- A weaker conclusion. -/
theorem Flow.Sat.imp {r : Flow α} {G₁ : α → State → Prop} {N₁ H₁ : State → Prop} {E₁ : Failure → State → Prop}
    (hr : r.Sat G₁ N₁ E₁ H₁) (hg : ∀ a s, G₁ a s → G a s) (hn : ∀ s, N₁ s → N s)
    (he : ∀ f s, E₁ f s → E f s) (hh : ∀ s, H₁ s → H s) : r.Sat G N E H := by
  cases r with
  | go a s => exact hg a s hr
  | noScale s => exact hn s hr
  | busError f s => exact he f s hr
  | hung s => exact hh s hr

end Sat

/-- The end of a command, by where it stands (R210, R213, R219, R228). -/
theorem finish_of_sat {r : Flow Unit} {P : State → Prop}
    (hr : r.Sat (fun _ s => P (complete .ok 0 s)) (fun s => P (complete .noScale 0 s))
      (fun f s => P (abort f s)) P) : P (finish r) := by
  cases r <;> exact hr

/-! ### The environment's answers -/

@[simp] theorem nextReply_device (e : Env) : (nextReply e).2.device = e.device := by
  unfold nextReply; split <;> rfl

@[simp] theorem nextReply_sensor (e : Env) : (nextReply e).2.sensor = e.sensor := by
  unfold nextReply; split <;> rfl

@[simp] theorem nextReply_scans (e : Env) : (nextReply e).2.scans = e.scans := by
  unfold nextReply; split <;> rfl

@[simp] theorem nextScan_device (e : Env) : (nextScan e).2.device = e.device := by
  unfold nextScan; split <;> rfl

@[simp] theorem nextScan_sensor (e : Env) : (nextScan e).2.sensor = e.sensor := by
  unfold nextScan; split <;> rfl

@[simp] theorem nextScan_replies (e : Env) : (nextScan e).2.replies = e.replies := by
  unfold nextScan; split <;> rfl

/-- A scripted reply is the one given. -/
theorem nextReply_of_cons {e : Env} {r : Reply} {rest : List Reply} (h : e.replies = r :: rest) :
    nextReply e = (r, { e with replies := rest }) := by
  simp [nextReply, h]

/-! ### The bus primitives -/

/-- Everything a read transaction can do (R62, R64, R228). -/
theorem memRead_sat {addr : Byte} {n : Nat} {s : State} {G : Burst → State → Prop} {N H : State → Prop}
    {E : Failure → State → Prop}
    (hgo : ∀ env b, env = (nextReply s.env).2 → G (deviceRead env addr b)
      ({ s with env := env }.record (.read s.busAddr addr n (.bytes ((deviceRead env addr b).toList.take n)))))
    (herror : ∀ env kind, env = (nextReply s.env).2 → E ⟨transactions s.trace, .read, addr, kind⟩
      ({ s with env := env }.record (.read s.busAddr addr n (.error kind))))
    (hnever : ∀ env, env = (nextReply s.env).2 →
      H ({ s with env := env }.record (.read s.busAddr addr n .never))) :
    (memRead addr n s).Sat G N E H := by
  unfold memRead
  split <;> rename_i heq
  · exact hgo _ _ (by rw [heq])
  · exact herror _ _ (by rw [heq])
  · exact hnever _ (by rw [heq])

/-- Everything a write transaction can do (R61, R64, R79, R228): a successful one reaches the device and is followed by
the settle wait, a failed one does neither, and one that never returned may have reached the device (R241). -/
theorem memWrite_sat {addr v : Byte} {s : State} {G : Unit → State → Prop} {N H : State → Prop}
    {E : Failure → State → Prop}
    (hgo : ∀ env, env = (nextReply s.env).2 →
      G () (settle ({ s with env := deviceWrite env addr v }.record (.write s.busAddr addr v .ok))))
    (herror : ∀ env kind, env = (nextReply s.env).2 → E ⟨transactions s.trace, .write, addr, kind⟩
      ({ s with env := env }.record (.write s.busAddr addr v (.error kind))))
    (hnever : ∀ env landed, env = (nextReply s.env).2 →
      H ({ s with env := deviceCutWrite landed env addr v }.record (.write s.busAddr addr v .never))) :
    (memWrite addr v s).Sat G N E H := by
  unfold memWrite
  split <;> rename_i heq
  · exact hgo _ (by rw [heq])
  · exact herror _ _ (by rw [heq])
  · exact hnever _ _ (by rw [heq])

/-- A read whose answer is scripted as a success. -/
theorem memRead_ok {addr : Byte} {n : Nat} {s : State} {b : Burst} {rest : List Reply}
    (h : s.env.replies = .ok b :: rest) :
    memRead addr n s = .go (deviceRead { s.env with replies := rest } addr b)
      ({ s with env := { s.env with replies := rest } }.record (.read s.busAddr addr n
        (.bytes ((deviceRead { s.env with replies := rest } addr b).toList.take n)))) := by
  simp [memRead, nextReply_of_cons h]

/-- A read whose answer is scripted as a failure. -/
theorem memRead_error {addr : Byte} {n : Nat} {s : State} {kind : BusErrorKind} {rest : List Reply}
    (h : s.env.replies = .error kind :: rest) :
    memRead addr n s = .busError ⟨transactions s.trace, .read, addr, kind⟩
      ({ s with env := { s.env with replies := rest } }.record (.read s.busAddr addr n (.error kind))) := by
  simp [memRead, nextReply_of_cons h]

/-- A write whose answer is scripted as a success. -/
theorem memWrite_ok {addr v : Byte} {s : State} {b : Burst} {rest : List Reply}
    (h : s.env.replies = .ok b :: rest) :
    memWrite addr v s = .go () (settle ({ s with
      env := deviceWrite { s.env with replies := rest } addr v }.record (.write s.busAddr addr v .ok))) := by
  simp [memWrite, nextReply_of_cons h]

/-- A write whose answer is scripted as a failure. -/
theorem memWrite_error {addr v : Byte} {s : State} {kind : BusErrorKind} {rest : List Reply}
    (h : s.env.replies = .error kind :: rest) :
    memWrite addr v s = .busError ⟨transactions s.trace, .write, addr, kind⟩
      ({ s with env := { s.env with replies := rest } }.record (.write s.busAddr addr v (.error kind))) := by
  simp [memWrite, nextReply_of_cons h]

/-! ### Bursts -/

/-- The one byte of a read of one byte. -/
theorem burst_take_one (b : Burst) : b.toList.take 1 = [b[0]] := by
  obtain ⟨⟨l⟩, h⟩ := b
  match l, h with
  | [_, _, _, _, _, _], _ => rfl

/-- The two bytes of a read of two bytes. -/
theorem burst_take_two (b : Burst) : b.toList.take 2 = [b[0], b[1]] := by
  obtain ⟨⟨l⟩, h⟩ := b
  match l, h with
  | [_, _, _, _, _, _], _ => rfl

/-- A read of six bytes returns them all. -/
theorem burst_take_six (b : Burst) : b.toList.take 6 = b.toList := by
  obtain ⟨⟨l⟩, h⟩ := b
  match l, h with
  | [_, _, _, _, _, _], _ => rfl

/-! ### Composite operations -/

/-- A read-modify-write whose two transactions are scripted as successes (R123): the byte written is computed from
the byte read, and the write is settled. -/
theorem rmw_ok {addr mask bits : Byte} {s : State} {b0 b1 : Burst} {rest : List Reply}
    (h : s.env.replies = .ok b0 :: .ok b1 :: rest) :
    rmw addr mask bits s =
      .go () { s with
        env := deviceWrite { s.env with replies := rest } addr
          (rmwByte (deviceRead { s.env with replies := rest } addr b0)[0] mask bits)
        settleTimer := 0
        trace := s.trace ++
          [.read s.busAddr addr 1 (.bytes [(deviceRead { s.env with replies := rest } addr b0)[0]]),
            .write s.busAddr addr (rmwByte (deviceRead { s.env with replies := rest } addr b0)[0] mask bits) .ok,
            .settle] } := by
  rw [rmw, memRead_ok h]
  simp only [Flow.andThen]
  rw [memWrite_ok (b := b1) (rest := rest) rfl]
  simp [settle, startSettle, endSettle, State.record, deviceRead_withReplies, burst_take_one]

/-- Everything a read-modify-write can do (R123): fail or hang at the read, then at the write. -/
theorem rmw_sat {addr mask bits : Byte} {s : State} {G : Unit → State → Prop} {N H : State → Prop}
    {E : Failure → State → Prop} {R : Burst → State → Prop}
    (hread : (memRead addr 1 s).Sat R N E H)
    (hwrite : ∀ old t, R old t → (memWrite addr (rmwByte old[0] mask bits) t).Sat G N E H) :
    (rmw addr mask bits s).Sat G N E H := hread.andThen hwrite

/-- A property of states that every bus primitive keeps, whatever the environment answers. -/
structure BusStable (P : State → Prop) : Prop where
  read : ∀ s env addr n r, P s → env.device = s.env.device → env.sensor = s.env.sensor →
    P ({ s with env := env }.record (.read s.busAddr addr n r))
  write : ∀ s env addr v, P s → env.device = s.env.device → env.sensor = s.env.sensor →
    P (settle ({ s with env := deviceWrite env addr v }.record (.write s.busAddr addr v .ok)))
  writeFails : ∀ s env addr v kind, P s → env.device = s.env.device → env.sensor = s.env.sensor →
    P ({ s with env := env }.record (.write s.busAddr addr v (.error kind)))
  writeHangs : ∀ s env addr v landed, P s → env.device = s.env.device → env.sensor = s.env.sensor →
    P ({ s with env := deviceCutWrite landed env addr v }.record (.write s.busAddr addr v .never))

section Stable
variable {P : State → Prop} {s : State}

theorem memRead_keeps (hP : BusStable P) (h : P s) (addr : Byte) (n : Nat) :
    (memRead addr n s).Sat (fun _ => P) P (fun _ => P) P :=
  memRead_sat (fun _ _ he => hP.read _ _ _ _ _ h (by simp [he]) (by simp [he]))
    (fun _ _ he => hP.read _ _ _ _ _ h (by simp [he]) (by simp [he]))
    (fun _ he => hP.read _ _ _ _ _ h (by simp [he]) (by simp [he]))

theorem memWrite_keeps (hP : BusStable P) (h : P s) (addr v : Byte) :
    (memWrite addr v s).Sat (fun _ => P) P (fun _ => P) P :=
  memWrite_sat (fun _ he => hP.write _ _ _ _ h (by simp [he]) (by simp [he]))
    (fun _ _ he => hP.writeFails _ _ _ _ _ h (by simp [he]) (by simp [he]))
    (fun _ _ he => hP.writeHangs _ _ _ _ _ h (by simp [he]) (by simp [he]))

theorem rmw_keeps (hP : BusStable P) (h : P s) (addr mask bits : Byte) :
    (rmw addr mask bits s).Sat (fun _ => P) P (fun _ => P) P :=
  rmw_sat (memRead_keeps hP h addr 1) fun _ _ ht => memWrite_keeps hP ht addr _

theorem getRangeOp_keeps (hP : BusStable P) (h : P s) (sensor : Sensor) :
    (getRangeOp sensor s).Sat (fun _ => P) P (fun _ => P) P :=
  (memRead_keeps hP h (cfgAddr sensor) 1).andThen fun _ _ ht => ht

/-- A range-set operation keeps a property that dropping the cache and storing the read-back keep (R148). -/
theorem setRangeOp_keeps {Q : State → Prop} (hP : BusStable P) (sensor : Sensor) (r : RangeEnum)
    (hdrop : P (dropCache sensor s)) (hstore : ∀ e t, P t → Q (storeReadBack sensor r e t)) :
    (setRangeOp sensor r s).Sat (fun _ => Q) P (fun _ => P) P :=
  (rmw_keeps hP hdrop (cfgAddr sensor) rangeMask (rangeBits r)).andThen fun _ _ ht =>
    (getRangeOp_keeps hP ht sensor).andThen fun e t ht => hstore e t ht

end Stable

/-! ### Traces -/

@[simp] theorem transactions_nil : transactions [] = 0 := rfl

@[simp] theorem transactions_append (t u : List BusEvent) :
    transactions (t ++ u) = transactions t + transactions u := by simp [transactions]

@[simp] theorem transactions_cons (e : BusEvent) (t : List BusEvent) :
    transactions (e :: t) = transactions t + if e.isTransaction then 1 else 0 := by
  simp [transactions, List.countP_cons]

theorem traceSettledFrom_append {due : Bool} {t u : List BusEvent} (ht : traceSettledFrom due t = true)
    (hu : traceSettled u = true) : traceSettledFrom due (t ++ u) = true := by
  induction t generalizing due with
  | nil =>
    cases due
    · exact hu
    · simp [traceSettledFrom] at ht
  | cons e rest ih =>
    simp only [traceSettledFrom, Bool.and_eq_true] at ht
    simp only [List.cons_append, traceSettledFrom, Bool.and_eq_true]
    exact ⟨ht.1, ih ht.2⟩

/-- A settled trace stays settled when a settled trace follows it. -/
theorem traceSettled_append {t u : List BusEvent} (ht : traceSettled t = true) (hu : traceSettled u = true) :
    traceSettled (t ++ u) = true := traceSettledFrom_append ht hu

end Sys2Proof.Machine
end

