-- ==== Sys2Proof/Laws/Command.lean ====
section
/-! SUPPORT. What a whole command can do: one rule from its body to its completion, the scan and the scale
selection, the range-set operation with scripted answers, and the failure detail as written bits. -/

namespace Sys2Proof.Machine

/-- A command ends as its body stands (30_encoding.md R91; 60_exceptions.md R210, R213, R219, R228). -/
theorem runCommand_of_sat {body : State → Flow Unit} {s : State} {P : State → Prop}
    (hbody : (body (accept s)).Sat (fun _ t => P (complete .ok 0 t)) (fun t => P (complete .noScale 0 t))
      (fun f t => P (abort f t)) P) : P (runCommand body s) := finish_of_sat hbody

/-- Everything a scan can do (00_scope.md R11, 20_memory.md R63): it always goes on. -/
theorem busScan_sat {s : State} {G : ScanSet → State → Prop} {N H : State → Prop} {E : Failure → State → Prop}
    (hgo : ∀ env present, env = (nextScan s.env).2 → present = (nextScan s.env).1 →
      G present ({ s with env := env }.record (.scan present))) : (busScan s).Sat G N E H :=
  hgo _ _ rfl rfl

/-- Everything the scale selection can do (42_measurement.md R188): a scale, or NO_SCALE, in the state as it is. -/
theorem needScale_sat {sel : ScaleSel} {s : State} {G : Div10 → State → Prop} {N H : State → Prop}
    {E : Failure → State → Prop} (hgo : ∀ d, scaleOf s sel = some d → G d s)
    (hnone : scaleOf s sel = none → N s) : (needScale sel s).Sat G N E H := by
  unfold needScale
  split <;> rename_i h
  · exact hgo _ h
  · exact hnone h

/-- A read-modify-write whose write fails (40_register_access.md R122, R123): the device keeps its byte and no wait
follows. -/
theorem rmw_writeError {addr mask bits : Byte} {s : State} {b : Burst} {kind : BusErrorKind} {rest : List Reply}
    (h : s.env.replies = .ok b :: .error kind :: rest) :
    rmw addr mask bits s =
      .busError ⟨transactions s.trace + 1, .write, addr, kind⟩ { s with
        env := { s.env with replies := rest }
        trace := s.trace ++
          [.read s.busAddr addr 1 (.bytes [(deviceRead { s.env with replies := rest } addr b)[0]]),
            .write s.busAddr addr (rmwByte (deviceRead { s.env with replies := rest } addr b)[0] mask bits)
              (.error kind)] } := by
  rw [rmw, memRead_ok h]
  simp only [Flow.andThen]
  rw [memWrite_error (kind := kind) (rest := rest) rfl]
  simp [State.record, deviceRead_withReplies, burst_take_one, BusEvent.isTransaction]

/-- A range read whose transaction is scripted as a success (41_state_machine.md R147). -/
theorem getRangeOp_ok {sensor : Sensor} {s : State} {b : Burst} {rest : List Reply}
    (h : s.env.replies = .ok b :: rest) :
    getRangeOp sensor s =
      .go (rangeField (deviceRead { s.env with replies := rest } (cfgAddr sensor) b)[0]) { s with
        env := { s.env with replies := rest }
        trace := s.trace ++ [.read s.busAddr (cfgAddr sensor) 1
          (.bytes [(deviceRead { s.env with replies := rest } (cfgAddr sensor) b)[0]])] } := by
  rw [getRangeOp, memRead_ok h]
  simp [Flow.andThen, State.record, burst_take_one]

/-- A range-set operation whose three transactions are scripted as successes (41_state_machine.md R148): the byte
written keeps all but bits 4:3 of the byte read, and the read-back is what is stored. -/
theorem setRangeOp_ok {sensor : Sensor} {r : RangeEnum} {s : State} {b0 b1 b2 : Burst} {rest : List Reply}
    (h : s.env.replies = .ok b0 :: .ok b1 :: .ok b2 :: rest) :
    let env := { s.env with replies := rest }
    let old := (deviceRead env (cfgAddr sensor) b0)[0]
    let new := rmwByte old rangeMask (rangeBits r)
    let back := (deviceRead (deviceWrite env (cfgAddr sensor) new) (cfgAddr sensor) b2)[0]
    setRangeOp sensor r s = .go (rangeField back) (storeReadBack sensor r (rangeField back)
      { dropCache sensor s with
        env := deviceWrite env (cfgAddr sensor) new
        settleTimer := 0
        trace := s.trace ++ [.read s.busAddr (cfgAddr sensor) 1 (.bytes [old]),
          .write s.busAddr (cfgAddr sensor) new .ok, .settle,
          .read s.busAddr (cfgAddr sensor) 1 (.bytes [back])] }) := by
  have h' : (dropCache sensor s).env.replies = .ok b0 :: .ok b1 :: .ok b2 :: rest := by simpa using h
  rw [setRangeOp, rmw_ok h']
  simp only [Flow.andThen]
  rw [getRangeOp_ok (b := b2) (rest := rest) (by simp)]
  simp [deviceRead_withReplies, deviceWrite_withReplies]

/-- A range-set operation whose write fails (41_state_machine.md R148; 60_exceptions.md R219): the cache stays dropped
and the device keeps its byte. -/
theorem setRangeOp_writeError {sensor : Sensor} {r : RangeEnum} {s : State} {b : Burst} {kind : BusErrorKind}
    {rest : List Reply} (h : s.env.replies = .ok b :: .error kind :: rest) :
    let env := { s.env with replies := rest }
    let old := (deviceRead env (cfgAddr sensor) b)[0]
    setRangeOp sensor r s = .busError ⟨transactions s.trace + 1, .write, cfgAddr sensor, kind⟩
      { dropCache sensor s with
        env := env
        trace := s.trace ++ [.read s.busAddr (cfgAddr sensor) 1 (.bytes [old]),
          .write s.busAddr (cfgAddr sensor) (rmwByte old rangeMask (rangeBits r)) (.error kind)] } := by
  have h' : (dropCache sensor s).env.replies = .ok b :: .error kind :: rest := by simpa using h
  rw [setRangeOp, rmw_writeError h']
  simp [Flow.andThen]

/-! ### Block-wide frames of the shared operations -/

/-- Dropping a sub-sensor's cache leaves the other sub-sensor's (10_state.md R26). -/
theorem dropCache_cache (sensor other : Sensor) (s : State) :
    (dropCache sensor s).cache other = if other = sensor then RangeCache.empty else s.cache other := by
  cases sensor <;> cases other <;> rfl

/-- A range-set operation's stores leave the other sub-sensor's cache (41_state_machine.md R148). -/
theorem storeReadBack_cache (sensor other : Sensor) (r e : RangeEnum) (s : State) :
    (storeReadBack sensor r e s).cache other =
      if other = sensor then readBackCache sensor r e else s.cache other := by
  cases sensor <;> cases other <;> rfl

/-- The scale a selector names depends on the caches alone (30_encoding.md R96). -/
theorem scaleOf_congr {s t : State} (sel : ScaleSel) (hacc : s.acc = t.acc) (hgyr : s.gyr = t.gyr) :
    scaleOf s sel = scaleOf t sel := by
  have h : s.cache = t.cache := by funext sensor; cases sensor <;> assumption
  unfold scaleOf
  rw [h]

/-! ### The failure detail as bits (10_state.md R34) -/

/-- A failed read at STEP 0. -/
theorem errinfoWord_firstRead (addr : Byte) (kind : BusErrorKind) :
    errinfoWord 0 .read addr kind = (addr.setWidth 16 <<< 8) ||| ((kindCode kind).setWidth 16 <<< 5) := by
  cases kind <;> simp only [errinfoWord, kindCode, directionBit] <;> (revert addr; decide)

/-- A failed write at STEP 0. -/
theorem errinfoWord_firstWrite (addr : Byte) (kind : BusErrorKind) :
    errinfoWord 0 .write addr kind =
      (addr.setWidth 16 <<< 8) ||| 0x10#16 ||| ((kindCode kind).setWidth 16 <<< 5) := by
  cases kind <;> simp only [errinfoWord, kindCode, directionBit] <;> (revert addr; decide)

/-- A failed write at STEP 1. -/
theorem errinfoWord_secondWrite (addr : Byte) (kind : BusErrorKind) :
    errinfoWord 1 .write addr kind =
      (addr.setWidth 16 <<< 8) ||| 0x11#16 ||| ((kindCode kind).setWidth 16 <<< 5) := by
  cases kind <;> simp only [errinfoWord, kindCode, directionBit] <;> (revert addr; decide)

/-- The range field of a byte whose bits 4:3 were replaced by `r` is `r` (20_memory.md R68, R69). -/
theorem rangeField_rmwByte (old : Byte) (r : RangeEnum) :
    rangeField (rmwByte old rangeMask (rangeBits r)) = r := by
  revert r old; decide

end Sys2Proof.Machine
end

