-- ==== Sys2Proof/Laws/Encoding.lean ====
section
/-! SUPPORT. A command word and its four byte fields (30_encoding.md R90). -/

namespace Sys2Proof

/-- Appending a byte is arithmetic in base 256. -/
theorem toNat_append_byte {n : Nat} (x : BitVec n) (b : Byte) : (x ++ b).toNat = x.toNat * 256 + b.toNat := by
  rw [BitVec.toNat_append, ← Nat.shiftLeft_add_eq_or_of_lt b.isLt, Nat.shiftLeft_eq]

/-- A word as a number. -/
theorem wordOf_toNat (op a b c : Byte) :
    (wordOf op a b c).toNat = ((op.toNat * 256 + a.toNat) * 256 + b.toNat) * 256 + c.toNat := by
  simp only [wordOf]
  rw [toNat_append_byte, toNat_append_byte, toNat_append_byte]

@[simp] theorem opField_wordOf (op a b c : Byte) : opField (wordOf op a b c) = op := by
  apply BitVec.eq_of_toNat_eq
  simp only [opField, BitVec.extractLsb'_toNat, wordOf_toNat, Nat.shiftRight_eq_div_pow]
  omega

@[simp] theorem aField_wordOf (op a b c : Byte) : aField (wordOf op a b c) = a := by
  apply BitVec.eq_of_toNat_eq
  simp only [aField, BitVec.extractLsb'_toNat, wordOf_toNat, Nat.shiftRight_eq_div_pow]
  omega

@[simp] theorem bField_wordOf (op a b c : Byte) : bField (wordOf op a b c) = b := by
  apply BitVec.eq_of_toNat_eq
  simp only [bField, BitVec.extractLsb'_toNat, wordOf_toNat, Nat.shiftRight_eq_div_pow]
  omega

@[simp] theorem cField_wordOf (op a b c : Byte) : cField (wordOf op a b c) = c := by
  apply BitVec.eq_of_toNat_eq
  simp only [cField, BitVec.extractLsb'_toNat, wordOf_toNat, Nat.shiftRight_eq_div_pow]
  omega

/-- A word is its four fields. -/
theorem wordOf_fields (w : Word) : wordOf (opField w) (aField w) (bField w) (cField w) = w := by
  apply BitVec.eq_of_toNat_eq
  simp only [wordOf_toNat, opField, aField, bField, cField, BitVec.extractLsb'_toNat, Nat.shiftRight_eq_div_pow]
  omega

/-- Two words are equal when their fields are. -/
theorem word_ext {w v : Word} (hop : opField w = opField v) (ha : aField w = aField v) (hb : bField w = bField v)
    (hc : cField w = cField v) : w = v := by
  rw [← wordOf_fields w, ← wordOf_fields v, hop, ha, hb, hc]

/-- Masking a word masks each field. -/
theorem opField_and (w v : Word) : opField (w &&& v) = opField w &&& opField v := BitVec.extractLsb'_and
theorem aField_and (w v : Word) : aField (w &&& v) = aField w &&& aField v := BitVec.extractLsb'_and
theorem bField_and (w v : Word) : bField (w &&& v) = bField w &&& bField v := BitVec.extractLsb'_and
theorem cField_and (w v : Word) : cField (w &&& v) = cField w &&& cField v := BitVec.extractLsb'_and

end Sys2Proof
end

