-- ==== Sys2Proof/Laws/Host.lean ====
section
/-! SUPPORT. What a host read returns (10_state.md R35). -/

namespace Sys2Proof.Machine

/-- The host map shows registers of the block alone, so taking an input from the list changes nothing of it. -/
theorem hostWord_inputs (s : State) (inputs : List HostInput) (u : Word) (index : Nat) :
    hostWord { s with inputs := inputs } u index = hostWord s u index := rfl

/-- A read the rule allows returns the bits of the host map. -/
theorem hostReadBits_allowed {s : State} {index : Nat} (u : Word)
    (h : s.busy = false ∨ readsWhenIdle index = false) : hostReadBits index u s = hostWord s u index := by
  unfold hostReadBits
  rw [if_neg]
  rcases h with h | h <;> simp [h]

/-- STATUS may be read at any time. -/
theorem readsWhenIdle_status : readsWhenIdle 0x01 = false := rfl

/-- CMD reads 0 at any time. -/
theorem readsWhenIdle_cmd : readsWhenIdle cmdIndex = false := rfl

end Sys2Proof.Machine
end

