-- ==== Sys2Proof/Laws/PerInstr.lean ====
section
/-! SUPPORT. The statements made for all instructions, one lemma per constructor: the encoding of an instruction
fits the row of the opcode table it belongs to (30_encoding.md R93). -/

namespace Sys2Proof.Laws.EncodeRow

/-- The encoded word matches its row's pattern under its row's mask, so every must-be-zero bit is 0, and its opcode
byte finds that row (30_encoding.md R93, R94). -/
def Statement (i : Instr) : Prop :=
  encode i &&& (opRow (instrOp i)).mask = (opRow (instrOp i)).pattern ∧
    opOfCode (opField (encode i)) = some (instrOp i)

/-- The must-be-zero bits, field by field. -/
theorem of_fields {w : Word} {op : Op} (hcode : opField w = (opRow op).code)
    (ha : aField w &&& aField (opRow op).mask = 0) (hb : bField w &&& bField (opRow op).mask = 0)
    (hc : cField w &&& cField (opRow op).mask = 0) :
    w &&& (opRow op).mask = (opRow op).pattern ∧ opOfCode (opField w) = some op := by
  refine ⟨word_ext ?_ ?_ ?_ ?_, ?_⟩
  · rw [opField_and, hcode]; cases op <;> decide
  · rw [aField_and, ha]; cases op <;> decide
  · rw [bField_and, hb]; cases op <;> decide
  · rw [cField_and, hc]; cases op <;> decide
  · rw [hcode]; cases op <;> decide

theorem bind (busaddr : BusAddr) (reqA reqG : RangeEnum) : Statement (.bind busaddr reqA reqG) := by
  refine of_fields (op := .bind) (opField_wordOf _ _ _ _) ?_ ?_ ?_ <;>
    simp only [encode, aField_wordOf, bField_wordOf, cField_wordOf]
  · revert busaddr; decide
  · revert reqA; decide
  · revert reqG; decide

theorem wrreg (addr byte : Byte) : Statement (.wrreg addr byte) := by
  refine of_fields (op := .wrreg) (opField_wordOf _ _ _ _) ?_ ?_ ?_ <;>
    simp only [encode, aField_wordOf, bField_wordOf, cField_wordOf]
  · revert addr; decide
  · revert byte; decide
  · decide

theorem rdreg (addr : Byte) (count : BitVec 3) : Statement (.rdreg addr count) := by
  refine of_fields (op := .rdreg) (opField_wordOf _ _ _ _) ?_ ?_ ?_ <;>
    simp only [encode, aField_wordOf, bField_wordOf, cField_wordOf]
  · revert addr; decide
  · revert count; decide
  · decide

theorem rmw (addr maskClear bitsSet : Byte) : Statement (.rmw addr maskClear bitsSet) := by
  refine of_fields (op := .rmw) (opField_wordOf _ _ _ _) ?_ ?_ ?_ <;>
    simp only [encode, aField_wordOf, bField_wordOf, cField_wordOf]
  · revert addr; decide
  · revert maskClear; decide
  · revert bitsSet; decide

theorem reset : Statement .reset := ⟨rfl, rfl⟩

theorem wake : Statement .wake := ⟨rfl, rfl⟩

theorem setrange (sensor : Sensor) (r : RangeEnum) : Statement (.setrange sensor r) := by
  refine of_fields (op := .setrange) (opField_wordOf _ _ _ _) ?_ ?_ ?_ <;>
    simp only [encode, aField_wordOf, bField_wordOf, cField_wordOf]
  · cases sensor <;> decide
  · revert r; decide
  · decide

theorem getrange (sensor : Sensor) : Statement (.getrange sensor) := by
  cases sensor <;> exact ⟨rfl, rfl⟩

theorem init : Statement .init := ⟨rfl, rfl⟩

theorem start : Statement .start := ⟨rfl, rfl⟩

theorem stop : Statement .stop := ⟨rfl, rfl⟩

theorem probe : Statement .probe := ⟨rfl, rfl⟩

theorem chkid : Statement .chkid := ⟨rfl, rfl⟩

theorem rdtriple (addr : Byte) (sel : ScaleSel) : Statement (.rdtriple addr sel) := by
  refine of_fields (op := .rdtriple) (opField_wordOf _ _ _ _) ?_ ?_ ?_ <;>
    simp only [encode, aField_wordOf, bField_wordOf, cField_wordOf]
  · revert addr; decide
  · rcases sel with (_ | _) | ⟨_ | _, r⟩
    · decide
    · decide
    · revert r; decide
    · revert r; decide
  · decide

theorem getacc : Statement .getacc := ⟨rfl, rfl⟩

theorem getgyro : Statement .getgyro := ⟨rfl, rfl⟩

theorem gettemp : Statement .gettemp := ⟨rfl, rfl⟩

end Sys2Proof.Laws.EncodeRow
end

