-- ==== Sys2Proof/Tests/Slice0.lean ====
section
/-! SUPPORT. The model's own tests: words and one-step results written out in the spec's worked examples and vectors
(95_test_vectors.md), and a witness for the hypotheses of each statement. -/

namespace Sys2Proof.Tests

open Sys2Proof Sys2Proof.Machine

/-! ### Helpers -/

/-- A successful answer with the byte `b` first. -/
def okByte (b : Byte) : Reply := .ok #v[b, 0, 0, 0, 0, 0]

/-- `s` with the answers `replies` to come. -/
def answered (s : State) (replies : List Reply) : State := { s with env := { s.env with replies := replies } }

/-- `s` with the reference device `d` holding `m`. -/
def onDevice (s : State) (d : Device) (m : Memory) : State := { s with env := { s.env with device := d, sensor := m } }

/-- A cache holding range `e`. -/
def holding (sensor : Sensor) (e : RangeEnum) (mism : Bool) : RangeCache :=
  { range := some e, scale := some (scaleTable sensor e), valid := true, mism := mism }

/-- LSTATE = CONFIGURED with both caches valid, at ranges 1 and 2. -/
def configured : State :=
  { State.reset with acc := holding .accel 1 false, gyr := holding .gyro 2 false, lstate := .configured }

/-- LSTATE = RUNNING, RUN = 1, both caches valid. -/
def running : State := { configured with lstate := .running, run := true }

/-- The outcome is a next state of which `p` holds. -/
def after (o : Host.Outcome State Fault Refusal) (p : State → Bool) : Bool :=
  match o with
  | .next t => p t
  | .fault _ => false
  | .refused _ => false

/-- The next state, or `s` where there is none. -/
def nextOr (s : State) (o : Host.Outcome State Fault Refusal) : State :=
  match o with
  | .next t => t
  | .fault _ => s
  | .refused _ => s

/-- The state after one command. -/
def afterExec (i : Instr) (s : State) : State := nextOr s (exec i s)

/-! ### Well-formedness and decoding (30_encoding.md R92, R93, R97; 95_test_vectors.md 2.2) -/

theorem test_rdreg_count_refused :
    (Instr.rdreg 0x75 0).wellFormed = false ∧ (Instr.rdreg 0x75 7).wellFormed = false ∧
      (Instr.rdreg 0x75 1).wellFormed = true ∧ (Instr.rdreg 0x75 6).wellFormed = true := by decide

theorem test_decode_bind : decode 0x01680102 = .ok (.bind 0x68 1 2) ∧ decode 0x017F0303 = .ok (.bind 0x7F 3 3) ∧
    decode 0x01000000 = .ok (.bind 0 0 0) := by decide

theorem test_decode_register_access :
    decode 0x10FFFF00 = .ok (.wrreg 0xFF 0xFF) ∧ decode 0x11750100 = .ok (.rdreg 0x75 1) ∧
      decode 0x113B0600 = .ok (.rdreg 0x3B 6) ∧ decode 0x12FFFFFF = .ok (.rmw 0xFF 0xFF 0xFF) ∧
      decode 0x121C1810 = .ok (.rmw 0x1C 0x18 0x10) := by decide

theorem test_decode_state_machine :
    decode 0x20000000 = .ok .reset ∧ decode 0x21000000 = .ok .wake ∧ decode 0x22010300 = .ok (.setrange .gyro 3) ∧
      decode 0x22000200 = .ok (.setrange .accel 2) ∧ decode 0x23000000 = .ok (.getrange .accel) ∧
      decode 0x23010000 = .ok (.getrange .gyro) ∧ decode 0x24000000 = .ok .init ∧
      decode 0x25000000 = .ok .start ∧ decode 0x26000000 = .ok .stop ∧ decode 0x27000000 = .ok .probe ∧
      decode 0x28000000 = .ok .chkid := by decide

theorem test_decode_measurement :
    decode 0x303B0800 = .ok (.rdtriple 0x3B (.table .accel 0)) ∧
      decode 0x303B0900 = .ok (.rdtriple 0x3B (.table .accel 1)) ∧
      decode 0x30430C00 = .ok (.rdtriple 0x43 (.table .gyro 0)) ∧
      decode 0x30430F00 = .ok (.rdtriple 0x43 (.table .gyro 3)) ∧
      decode 0x30000000 = .ok (.rdtriple 0x00 (.cached .accel)) ∧
      decode 0x30FF0100 = .ok (.rdtriple 0xFF (.cached .gyro)) ∧ decode 0x31000000 = .ok .getacc ∧
      decode 0x32000000 = .ok .getgyro ∧ decode 0x33000000 = .ok .gettemp := by decide

theorem test_unassigned_opcodes :
    [0x00000000#32, 0xFFFFFFFF#32, 0x02000000#32, 0x13000000#32, 0x29000000#32, 0x34000000#32].all
      (fun w => decode w == .error .unknownOpcode) = true := by decide

theorem test_must_be_zero_bits :
    [0x20000001#32, 0x21000100#32, 0x24010000#32, 0x33000080#32, 0x01E80102#32, 0x01680402#32, 0x01680104#32,
      0x10190701#32, 0x11750800#32, 0x11750101#32, 0x22020100#32, 0x22000400#32, 0x23000100#32, 0x303B1000#32].all
      (fun w => decode w == .error .mustBeZero) = true := by decide

theorem test_value_conditions :
    decode 0x11750000 = .error .countOutOfRange ∧ decode 0x11750700 = .error .countOutOfRange ∧
      decode 0x303B0200 = .error .selReserved ∧ decode 0x303B0700 = .error .selReserved := by decide

theorem test_encode_words :
    encode (.bind 0x68 1 2) = 0x01680102 ∧ encode (.rdreg 0x75 1) = 0x11750100 ∧
      encode (.setrange .gyro 3) = 0x22010300 ∧ encode (.rdtriple 0x43 (.table .gyro 3)) = 0x30430F00 ∧
      encode (.rmw 0x6B 0x40 0) = 0x126B4000 := by decide

/-- Every row's word reads as the row's command through the host's numbering. -/
theorem test_table_word : decodeTableWord 32 0x126B4000 = some (.rmw 0x6B 0x40 0) ∧
    decodeTableWord 32 0x11000000 = none := by decide

/-! ### One step per command (95_test_vectors.md 2.3, 2.4, 2.9) -/

/-- V2: a raw write of 0x6B while running; STATUS = 0x0002. -/
theorem test_wrreg_v2 : after (exec (.wrreg 0x6B 0) (answered running [okByte 0])) (fun t =>
    statusWord t == 0x0002 && t.trace == [.write 0x68 0x6B 0 .ok, .settle]) = true := by decide

/-- V3: the cache of a managed register is dropped although the write fails; ERRINFO = 0x1B10, STATUS = 0x100C. -/
theorem test_wrreg_v3 : after (exec (.wrreg 0x1B 0x18) (answered { configured with
    gyr := holding .gyro 2 true } [.error .nack])) (fun t =>
    statusWord t == 0x100C && t.errinfo == 0x1B10 && t.trace == [.write 0x68 0x1B 0x18 (.error .nack)]) = true := by
  decide

/-- V4: RDREG of two bytes leaves RBUF[2..5] without value. -/
theorem test_rdreg_v4 : after (exec (.rdreg 0x41 2) (answered running [.ok #v[0x0C, 0xA0, 1, 2, 3, 4]])) (fun t =>
    t.rbuf == #v[some 0x0C, some 0xA0, none, none, none, none] && t.rlen == 2 &&
      t.trace == [.read 0x68 0x41 2 (.bytes [0x0C, 0xA0])]) = true := by decide

/-- V6: a failed read; ERRINFO = 0x7520. -/
theorem test_rdreg_v6 : after (exec (.rdreg 0x75 1) (answered running [.error .timeout])) (fun t =>
    t.errinfo == 0x7520 && t.rlen == 0 && t.lstate == .unknown && t.acc == running.acc) = true := by decide

/-- V11: bits in both masks end 1. -/
theorem test_rmw_v11 : after (exec (.rmw 0x19 0x0F 0x03) (answered running [okByte 0xFC, okByte 0])) (fun t =>
    t.trace == [.read 0x68 0x19 1 (.bytes [0xFC]), .write 0x68 0x19 0xF3 .ok, .settle] && t.lstate == .running) =
    true := by decide

/-- V12: the write fails; ERRINFO = 0x1951, and no settle wait follows. -/
theorem test_rmw_v12 : after (exec (.rmw 0x19 1 0) (answered running [okByte 0xFF, .error .arbLost])) (fun t =>
    t.errinfo == 0x1951 && t.trace == [.read 0x68 0x19 1 (.bytes [0xFF]), .write 0x68 0x19 0xFE (.error .arbLost)]) =
    true := by decide

/-- V43: BIND clears ERRS; CFG = 0x0C69, STATUS = 0. -/
theorem test_bind_v43 : after (exec (.bind 0x69 0 3) { running with errs := true }) (fun t =>
    cfgWord t == 0x0C69 && statusWord t == 0 && t.trace == []) = true := by decide

/-- V26: RESET keeps RUN and the other bits of 0x6B; STATUS = 0x0102. -/
theorem test_reset_v26 : after (exec .reset (answered { running with acc := holding .accel 1 true }
    [okByte 0x01, okByte 0])) (fun t =>
    statusWord t == 0x0102 && t.trace == [.read 0x68 0x6B 1 (.bytes [0x01]), .write 0x68 0x6B 0x81 .ok, .settle]) =
    true := by decide

/-- V28: WAKE from RESET. -/
theorem test_wake_v28 : after (exec .wake (answered { State.reset with lstate := .reset } [okByte 0])) (fun t =>
    t.lstate == .awake && t.trace == [.write 0x68 0x6B 0x01 .ok, .settle]) = true := by decide

/-- V29: WAKE from CONFIGURED leaves the valid bits. -/
theorem test_wake_v29 : after (exec .wake (answered configured [okByte 0])) (fun t =>
    t.lstate == .unknown && t.acc.valid && t.gyr.valid) = true := by decide

/-- V32: the second range-set in AWAKE ends CONFIGURED. -/
theorem test_setrange_v32 : after (exec (.setrange .gyro 3) (answered { State.reset with
    lstate := .awake, acc := holding .accel 2 false } [okByte 0, okByte 0, okByte 0x18])) (fun t =>
    t.gyr == { range := some 3, scale := some 164, valid := true, mism := false } && t.res == some 3 &&
      t.lstate == .configured && rangeWord t 0 == 0x0E) = true := by decide

/-- V33: the sensor coerces 3 to 1. -/
theorem test_setrange_v33 : after (exec (.setrange .accel 3) (answered running
    [okByte 0, okByte 0, okByte 0x08])) (fun t =>
    t.acc == { range := some 1, scale := some 81920, valid := true, mism := true } && t.res == some 1 &&
      t.lstate == .running && t.cc == .ok && !t.errs) = true := by decide

/-- V36: a stale cache stays; RES shows the register. -/
theorem test_getrange_v36 : after (exec (.getrange .accel) (answered configured [okByte 0x10])) (fun t =>
    t.res == some 2 && t.acc == configured.acc) = true := by decide

/-- V37: 0xF0 holds the enum 2. -/
theorem test_getrange_v37 : after (exec (.getrange .gyro) (answered State.reset [okByte 0xF0])) (fun t =>
    t.res == some 2 && !t.gyr.valid && t.cc == .ok) = true := by decide

/-- P3, command 1: INIT with the eighth transaction failing; ERRINFO = 0x1B37, STATUS = 0x100C. -/
theorem test_init_p3 : after (exec .init (answered { State.reset with reqA := 2, reqG := 1 }
    [okByte 0, okByte 0, okByte 0, okByte 0, okByte 0, okByte 0x10, okByte 0, .error .timeout])) (fun t =>
    t.errinfo == 0x1B37 && statusWord t == 0x100C && t.acc == holding .accel 2 false && t.gyr == RangeCache.empty) =
    true := by decide

/-- V44: INIT whose third transaction, the write of WAKE, fails; ERRINFO = 0x6B12. -/
theorem test_init_v44 : after (exec .init (answered configured [okByte 0x40, okByte 0, .error .nack])) (fun t =>
    t.errinfo == 0x6B12 && !t.acc.valid && !t.gyr.valid && t.trace == [.read 0x68 0x6B 1 (.bytes [0x40]),
      .write 0x68 0x6B 0xC0 .ok, .settle, .write 0x68 0x6B 0x01 (.error .nack)]) = true := by decide

/-- V20: START from CONFIGURED; STATUS = 0x041A. -/
theorem test_start_v20 : after (exec .start (answered configured [okByte 0x41, okByte 0])) (fun t =>
    statusWord t == 0x041A && t.trace == [.read 0x68 0x6B 1 (.bytes [0x41]), .write 0x68 0x6B 0x01 .ok, .settle]) =
    true := by decide

/-- V22: START whose read fails keeps RUN; ERRINFO = 0x6B00. -/
theorem test_start_v22 : after (exec .start (answered running [.error .nack])) (fun t =>
    t.run && t.lstate == .unknown && t.errinfo == 0x6B00 && t.acc.valid) = true := by decide

/-- V24: STOP from CONFIGURED. -/
theorem test_stop_v24 : after (exec .stop (answered configured [okByte 0x01, okByte 0])) (fun t =>
    !t.run && t.lstate == .stopped && t.trace ==
      [.read 0x68 0x6B 1 (.bytes [0x01]), .write 0x68 0x6B 0x41 .ok, .settle]) = true := by decide

/-- V23: STOP whose write fails keeps RUN; ERRINFO = 0x6B31. -/
theorem test_stop_v23 : after (exec .stop (answered running [okByte 0x01, .error .timeout])) (fun t =>
    t.run && t.lstate == .unknown && t.errinfo == 0x6B31) = true := by decide

/-- V39: the set is tested for BUS_ADDR, not for 0x68. -/
theorem test_probe_v39 : after (exec .probe { State.reset with
    busAddr := 0x69, env := { Env.start with scans := [BitVec.twoPow 128 0x68] } }) (fun t =>
    t.res == some 0 && t.cc == .ok) = true := by decide

/-- E7: 0x68 present. -/
theorem test_probe_e7 : after (exec .probe { State.reset with
    env := { Env.start with scans := [BitVec.twoPow 128 0x68] } }) (fun t => t.res == some 1) = true := by decide

/-- V40: the identity byte is compared with the constant. -/
theorem test_chkid_v40 : after (exec .chkid (answered { State.reset with busAddr := 0x69 } [okByte 0x68])) (fun t =>
    t.res == some 1 && t.trace == [.read 0x69 0x75 1 (.bytes [0x68])]) = true := by decide

/-- V41: and not with BUS_ADDR. -/
theorem test_chkid_v41 : after (exec .chkid (answered { State.reset with busAddr := 0x69 } [okByte 0x69])) (fun t =>
    t.res == some 0) = true := by decide

/-- V62: a table selector needs no valid bit. -/
theorem test_rdtriple_v62 : after (exec (.rdtriple 0x3B (.table .accel 1)) (answered State.reset
    [.ok #v[0x20, 0x00, 0xE0, 0x00, 0x00, 0x00]])) (fun t =>
    t.cc == .ok && t.out == #v[some 0x00010000, some 0xFFFF0000, some 0]) = true := by decide

/-- V67: any address with any scale. -/
theorem test_rdtriple_v67 : after (exec (.rdtriple 0x43 (.cached .accel)) (answered { State.reset with
    acc := holding .accel 3 false } [.ok #v[0x08, 0x00, 0x00, 0x00, 0xF8, 0x00]])) (fun t =>
    t.out == #v[some 0x00010000, some 0, some 0xFFFF0000]) = true := by decide

/-- V60: NO_SCALE, with no bus activity. -/
theorem test_getacc_v60 : after (exec .getacc { State.reset with lstate := .awake }) (fun t =>
    t.cc == .noScale && t.errs && t.errinfo == 0 && t.trace == [] && t.lstate == .awake) = true := by decide

/-- V64: a failed burst keeps the valid bit; ERRINFO = 0x3B20. -/
theorem test_getacc_v64 : after (exec .getacc (answered running [.error .timeout])) (fun t =>
    t.errinfo == 0x3B20 && t.acc.valid && t.rlen == 0 && t.trace == [.read 0x68 0x3B 6 (.error .timeout)]) = true := by
  decide

/-- V63: the gyroscope at 32.8 LSB per degree per second. -/
theorem test_getgyro_v63 : after (exec .getgyro (answered configured
    [.ok #v[0x01, 0x48, 0xFC, 0x18, 0x80, 0x00]])) (fun t =>
    t.raw == #v[some 0x0148, some 0xFC18, some 0x8000] &&
      t.out == #v[some 0x000A0000, some 0xFFE1831F, some 0xFC18F9C2] && t.rlen == 6) = true := by decide

/-- V65: the greatest negative temperature. -/
theorem test_gettemp_v65 : after (exec .gettemp (answered running [.ok #v[0xCF, 0x7B, 1, 1, 1, 1]])) (fun t =>
    t.raw == #v[some 0xCF7B, none, none] && t.out == #v[some 0xFFFFFF66, none, none] && t.rlen == 2 &&
      t.lstate == .running) = true := by decide

/-- V66: a failed temperature read; ERRINFO = 0x4160. -/
theorem test_gettemp_v66 : after (exec .gettemp (answered running [.error .other])) (fun t =>
    t.errinfo == 0x4160) = true := by decide

/-! ### The host port, the arithmetic and the reference devices -/

/-- 95_test_vectors.md 2.2: the word 0 from STATUS = 0x0518 gives STATUS = 0x251C. -/
theorem test_illegal_word : after (step (State.withFetchWord { configured with
    lstate := .stopped, res := some 1 } 32 0)) (fun t =>
    statusWord t == 0x251C && t.res == none && t.rlen == 0 && t.errinfo == 0) = true := by decide

/-- The step that a fetched word takes runs its command. -/
theorem test_fetch_word : after (step (State.withFetchWord State.reset 32 0x01690003)) (fun t =>
    t.busAddr == 0x69 && t.reqG == 3) = true := by decide

/-- 2.1: `rn` at ties and around zero. -/
theorem test_rn : rn 7 2 = 4 ∧ rn (-7) 2 = -3 ∧ rn 5 3 = 2 ∧ rn (-5) 3 = -2 ∧ rn 1 3 = 0 ∧ rn (-1) 3 = 0 ∧
    rn 0 5 = 0 := by decide

/-- 2.5: byte order and sign. -/
theorem test_decode16 : decode16 0x12 0x34 = 0x1234 ∧ (decode16 0x80 0x00).toInt = -32768 ∧
    (decode16 0xFF 0x00).toInt = -256 ∧ (decode16 0x7F 0xFF).toInt = 32767 := by decide

/-- 2.6, 2.7: the corners of the scaling. -/
theorem test_q16 : q16 0x7FFF (accTable 3) = 0x000FFFE0 ∧ q16 0x8000 (accTable 0) = 0xFFFE0000 ∧
    q16 0x03E8 (gyrTable 0) = 0x0007A233 ∧ q16 0xFC18 (gyrTable 1) = 0xFFF0BB9A ∧
    q16 0x8000 (gyrTable 3) = 0xF831F383 ∧ q16 0x7FFF (gyrTable 2) = 0x03E6FE70 := by decide

/-- 2.8: the temperature, and E5. -/
theorem test_qtemp : qtemp 0x0000 = 0x002487AE ∧ qtemp 0x0154 = 0x002587AE ∧ qtemp 0xFFFF = 0x002486ED ∧
    qtemp 0xCF7C = 0x00000027 ∧ qtemp 0x7FFF = 0x0084E74E ∧ qtemp 0x8000 = 0xFFC4274E := by decide

/-- P2, command 1: DEV_COERCE stores 0xF7 for 0xFF when it maps 3 to 2. -/
theorem test_coerced_byte : coercedByte #v[0, 1, 2, 2] #v[0, 1, 2, 3] 0x1C 0xFF = 0xF7 ∧
    coercedByte #v[0, 1, 2, 2] #v[0, 1, 2, 3] 0x1B 0xFF = 0xFF := by decide

/-- R241: a write that never returned has reached the device or has not. -/
theorem test_cut_write :
    after (exec (.wrreg 0x1C 0x18) (onDevice (answered running [.never true]) .plain [])) (fun t =>
      t.busy && t.env.sensor == [(0x1C, 0x18)] && t.trace == [.write 0x68 0x1C 0x18 .never]) = true ∧
    after (exec (.wrreg 0x1C 0x18) (onDevice (answered running [.never false]) .plain [])) (fun t =>
      t.busy && t.env.sensor == []) = true := by decide

/-- Writing the value an unlisted address reads as removes the entry. -/
theorem test_memory_canonical : memStore [(1, 2), (5, 6)] 5 0 = [(1, 2)] ∧
    memStore [(1, 2)] 0 7 = [(0, 7), (1, 2)] := by decide

/-! ### Witnesses: states and operands that meet the hypotheses of each statement, clause by clause -/

/-- `n` successful answers. -/
def oks (n : Nat) : List Reply := List.replicate n (okByte 0)

theorem witness_StepRunsDecodedCommand :
    (let s := { State.reset with inputs := [.write 0 0x24000000] };
      s.busy = false ∧ s.inputs = .write 0 0x24000000 :: [] ∧ decode 0x24000000 = .ok .init) ∧
    decodeTableWord 32 0x24000000 = some .init := by decide

theorem witness_IllegalWordCompletesIllegalCmd :
    (let s := { State.reset with inputs := [.write 0 0x11750700] };
      s.busy = false ∧ s.inputs = .write 0 0x11750700 :: [] ∧ decode 0x11750700 = .error .countOutOfRange) := by decide

theorem witness_HungBlockAcceptsNothing :
    (let s := { State.reset with busy := true }; s.busy = true ∧ s.inputs = []) ∧
    (let s := { State.reset with busy := true, inputs := [.write 0 0] }; s.busy = true ∧ s.inputs = .write 0 0 :: []) ∧
    (let s := { State.reset with busy := true, inputs := [.blockReset] };
      s.busy = true ∧ s.inputs = .blockReset :: []) := by decide

theorem witness_HostAccessLeavesRegisters :
    (State.reset.inputs = [] ∧ State.reset.busy = false) ∧
    (let s := { State.reset with busy := true, inputs := [.write 1 5] }; 1 ≠ 0 ∧ s.inputs = .write 1 5 :: []) ∧
    (let s := { State.reset with inputs := [.read 0x1E] }; s.inputs = .read 0x1E :: [] ∧ s.busy = false) ∧
    (let s := { State.reset with busy := true, inputs := [.read 1] }; s.inputs = .read 1 :: [] ∧ 1 = 1) := by decide

theorem witness_HostRegisterMap :
    (let s := { configured with
        rbuf := #v[none, none, none, none, none, some 6], raw := #v[none, none, some 1]
        out := #v[none, none, some 2], res := some 3 };
      s.acc.range = some 1 ∧ s.gyr.range = some 2 ∧ s.acc.scale = some 81920 ∧ s.gyr.scale = some 328 ∧
        s.res = some 3 ∧ s.rbuf[(5 : Fin 6)] = some 6 ∧ s.raw[(2 : Fin 3)] = some 1 ∧ s.out[(2 : Fin 3)] = some 2) ∧
    (let unmapped := fun index : Nat => (0x09 ≤ index ∧ index ≤ 0x0F) ∨ index = 0x16 ∨ index = 0x17 ∨ index = 0x1B ∨
        0x1F ≤ index;
      unmapped 0x09 ∧ unmapped 0x0F ∧ unmapped 0x16 ∧ unmapped 0x17 ∧ unmapped 0x1B ∧ unmapped 0x1F) := by decide

theorem witness_DecodeOfEncode :
    (Instr.rdreg 0x75 1).wellFormed = true ∧ (Instr.rdreg 0xFF 6).wellFormed = true ∧
      (Instr.rdtriple 0x43 (.table .gyro 3)).wellFormed = true ∧ (Instr.bind 0x7F 3 3).wellFormed = true := by decide

theorem witness_EncodeOfDecode : decode 0x12FFFFFF = .ok (.rmw 0xFF 0xFF 0xFF) := by decide

theorem witness_LegalWordsExactly :
    (opRow .rdreg).code = (0x113B0600 : Word).extractLsb' 24 8 ∧
      (0x113B0600 : Word) &&& (opRow .rdreg).mask = (opRow .rdreg).pattern ∧
      1 ≤ ((0x113B0600 : Word).extractLsb' 8 3).toNat ∧ ((0x113B0600 : Word).extractLsb' 8 3).toNat ≤ 6 ∧
    (opRow .rdtriple).code = (0x30430800 : Word).extractLsb' 24 8 ∧
      (0x30430800 : Word) &&& (opRow .rdtriple).mask = (opRow .rdtriple).pattern ∧
      8 ≤ ((0x30430800 : Word).extractLsb' 8 4).toNat := by decide

theorem witness_OpcodeRowsDisjoint :
    (0x11750100 : Word) &&& (opRow .rdreg).mask = (opRow .rdreg).pattern := by decide

theorem witness_BlockResetRestoresRegisters :
    (let s := { running with inputs := [.blockReset, .read 1] }; s.inputs = .blockReset :: [.read 1]) ∧
    (let s := { answered running [.never true] with inputs := [.write 0 0x10190700, .blockReset] };
      s.busy = false ∧ decode 0x10190700 = .ok (.wrreg 0x19 0x07) ∧ s.env.replies = .never true :: [] ∧
        s.inputs = .write 0 0x10190700 :: .blockReset :: []) := by decide

theorem witness_CommandsComplete :
    (let s := answered State.reset (oks 9); 9 ≤ s.env.replies.length ∧ ∀ landed, .never landed ∉ s.env.replies) ∧
    (∃ t, exec .start (answered configured [okByte 1, .never false]) = .next t ∧ t.busy = true) :=
  ⟨by decide, _, rfl, by decide⟩

theorem witness_CompletionRegisters :
    (∃ t, exec .wake (answered running [.error .nack]) = .next t ∧ t.busy = false ∧ t.cc ≠ .ok) ∧
    (∃ t, exec .getacc State.reset = .next t ∧ t.busy = false ∧ t.cc ≠ .busError) ∧
    (∃ t, exec (.bind 0x69 1 2) running = .next t ∧ t.busy = false ∧ t.cc = .ok ∧
      ∃ busaddr reqA reqG, Instr.bind 0x69 1 2 = .bind busaddr reqA reqG) ∧
    (∃ t, exec .wake (answered running (oks 1)) = .next t ∧ t.busy = false ∧ t.cc = .ok ∧
      ∀ busaddr reqA reqG, Instr.wake ≠ .bind busaddr reqA reqG) :=
  ⟨⟨_, rfl, by decide⟩, ⟨_, rfl, by decide⟩, ⟨_, rfl, by decide, by decide, _, _, _, rfl⟩,
    ⟨_, rfl, by decide, by decide, fun _ _ _ h => nomatch h⟩⟩

theorem witness_ResultsOnlyWhenOk :
    (∃ t, exec (.rdreg 0x41 6) (answered running [.never true]) = .next t ∧ t.busy = true) ∧
    (∃ t, exec (.rdreg 0x41 6) (answered running [.error .other]) = .next t ∧ t.cc ≠ .ok) :=
  ⟨⟨_, rfl, by decide⟩, ⟨_, rfl, by decide⟩⟩

theorem witness_AbortNamesFailedTransaction :
    ∃ t, exec .init (answered running (oks 8 ++ [.error .other])) = .next t ∧ t.busy = false ∧ t.cc = .busError :=
  ⟨_, rfl, by decide⟩

theorem witness_NoScaleOnlyForDecode :
    (∃ t, exec .getgyro State.reset = .next t ∧ t.busy = false ∧ t.cc = .noScale) ∧
    (∃ t, exec (.rdtriple 0x43 (.cached .accel)) { State.reset with acc := { RangeCache.empty with valid := true } } =
      .next t ∧ t.busy = false ∧ t.cc = .noScale) :=
  ⟨⟨_, rfl, by decide⟩, ⟨_, rfl, by decide⟩⟩

theorem witness_OnlyBindWritesConfiguration :
    ∃ t, exec .init (answered { State.reset with reqA := 3 } (oks 9)) = .next t ∧
      ∀ busaddr reqA reqG, Instr.init ≠ .bind busaddr reqA reqG :=
  ⟨_, rfl, fun _ _ _ h => nomatch h⟩

theorem witness_RunWriters :
    (∃ t, exec .start (answered configured (oks 2)) = .next t ∧ t.busy = false ∧ t.cc = .ok) ∧
    (∃ t, exec .stop (answered running [.error .nack]) = .next t ∧ t.cc ≠ .ok) ∧
    (∃ t, exec (.bind 0 0 0) running = .next t) ∧
    (∃ t, exec .reset (answered running (oks 2)) = .next t ∧ Instr.reset ≠ .start ∧ Instr.reset ≠ .stop ∧
      ∀ busaddr reqA reqG, Instr.reset ≠ .bind busaddr reqA reqG) :=
  ⟨⟨_, rfl, by decide⟩, ⟨_, rfl, by decide⟩, ⟨_, rfl⟩, ⟨_, rfl, by decide, by decide, fun _ _ _ h => nomatch h⟩⟩

theorem witness_CacheWriters :
    (∃ t, exec (.setrange .gyro 3) (answered running (oks 3)) = .next t) ∧
    (∃ t, exec (.wrreg 0x1B 0) (answered running (oks 1)) = .next t ∧ (0x1B : Byte) ≠ 0x1C ∧ (0x1B : Byte) ≠ 0x6B) ∧
    (∃ t, exec (.rmw 0x1C 0 0) (answered running (oks 2)) = .next t ∧ (0x1C : Byte) ≠ 0x1B ∧ (0x1C : Byte) ≠ 0x6B) :=
  ⟨⟨_, rfl⟩, ⟨_, rfl, by decide⟩, ⟨_, rfl, by decide⟩⟩

theorem witness_ResultWriters : ∃ t, exec .gettemp (answered running (oks 1)) = .next t ∧ t.rlen = 2 :=
  ⟨_, rfl, by decide⟩

theorem witness_MemoryAndPortFrame :
    (∃ t, exec .start (onDevice (answered configured (oks 2)) .plain [(0x6B, 0x41)]) = .next t ∧
      ¬ writesAddr .start 0x6A ∧ ¬ writesAddr .start 0x6C) ∧
    (∃ t, exec .gettemp (onDevice (answered configured (oks 1)) .plain [(0x6B, 0x41)]) = .next t ∧
      ∀ a, ¬ writesAddr .gettemp a) :=
  ⟨⟨_, rfl, by simp [writesAddr]⟩, ⟨_, rfl, by simp [writesAddr]⟩⟩

theorem witness_LstateNextState :
    (∃ t, exec (.setrange .gyro 0) (answered { State.reset with lstate := .awake } (oks 3)) = .next t ∧
      t.busy = false ∧ t.cc = .ok) ∧
    (∃ t, exec .stop (answered running [okByte 0, .error .nack]) = .next t ∧ t.busy = false ∧ t.cc = .busError) ∧
    (∃ t, exec .getacc State.reset = .next t ∧ t.busy = false ∧ (t.cc = .illegalCmd ∨ t.cc = .noScale)) ∧
    (∃ t, exec (.wrreg 0x6B 0) (answered running [.never true]) = .next t) ∧
    (∃ t, exec (.rmw 0x1C 0 0) (answered running (oks 2)) = .next t) :=
  ⟨⟨_, rfl, by decide⟩, ⟨_, rfl, by decide⟩, ⟨_, rfl, by decide⟩, ⟨_, rfl⟩, ⟨_, rfl⟩⟩

theorem witness_ManagedWriteEffects :
    (∃ t, exec (.wrreg 0x1C 0) (answered running (oks 1)) = .next t) ∧
    (∃ t, exec (.rmw 0x1B 0 0) (answered running [.error .nack]) = .next t) ∧
    (∃ t, exec (.wrreg 0x6B 0) (answered running [.error .nack]) = .next t) ∧
    (∃ t, exec (.rmw 0x1D 0 0) (answered running (oks 2)) = .next t ∧
      (0x1D : Byte) ≠ 0x1C ∧ (0x1D : Byte) ≠ 0x1B ∧ (0x1D : Byte) ≠ 0x6B) :=
  ⟨⟨_, rfl⟩, ⟨_, rfl⟩, ⟨_, rfl⟩, ⟨_, rfl, by decide⟩⟩

theorem witness_EveryWriteSettles : ∃ t, exec .init (answered running (oks 9)) = .next t ∧ t.trace.length = 13 :=
  ⟨_, rfl, by decide⟩

theorem witness_SettleWaitsPerCommand :
    (∃ t, exec .init (answered running (oks 9)) = .next t ∧ t.busy = false ∧ t.cc = .ok) ∧
    (∃ t, exec .chkid (answered running (oks 1)) = .next t ∧ t.busy = false ∧ t.cc = .ok) :=
  ⟨⟨_, rfl, by decide⟩, ⟨_, rfl, by decide⟩⟩

theorem witness_RunAndLstateGuardNothing : ∃ t, exec .start (answered State.reset (oks 2)) = .next t := ⟨_, rfl⟩

/-- A running block meets the invariants, and its step has a next state. -/
theorem witness_StepKeepsStateInvariants : running.Inv ∧ ∃ t, step running = .next t :=
  ⟨{ memory := rfl
     accCache := .inr ⟨1, false, rfl⟩
     gyrCache := .inr ⟨2, false, rfl⟩
     results := by unfold ResultsOk; decide
     status := by unfold StatusOk; decide
     timerIdle := rfl
     settled := rfl
     addressed := fun e he => absurd he List.not_mem_nil
     lifecycle := fun _ => by unfold LifecycleOk; decide }, _, rfl⟩

theorem witness_WrregWritesRegister : (answered running [okByte 0]).env.replies = okByte 0 :: [] := rfl

theorem witness_RdregReadsRegisters :
    (1 ≤ (1 : BitVec 3).toNat ∧ (6 : BitVec 3).toNat ≤ 6 ∧ (answered running [okByte 7]).env.replies = okByte 7 :: []) ∧
    ((0 : BitVec 3) = 0 ∧ (7 : BitVec 3) = 7) := by decide

theorem witness_RmwWritesChangedByte : (answered running (oks 2)).env.replies = okByte 0 :: okByte 0 :: [] := rfl

theorem witness_BindConstructsHandle : running.settleTimer = 0 := rfl

theorem witness_ResetSetsResetBit :
    (answered running [okByte 0x40, okByte 0]).env.replies = okByte 0x40 :: okByte 0 :: [] := rfl

theorem witness_WakeWritesWholeByte : (answered running (oks 1)).env.replies = okByte 0 :: [] := rfl

theorem witness_SetrangeStoresReadBack :
    (answered running [okByte 0, okByte 0, okByte 8]).env.replies = okByte 0 :: okByte 0 :: okByte 8 :: [] := rfl

theorem witness_GetrangeReadsEnum : (answered running [okByte 0x18]).env.replies = okByte 0x18 :: [] := rfl

theorem witness_InitRunsFullSequence : (answered running (oks 9)).env.replies =
    okByte 0 :: okByte 0 :: okByte 0 :: okByte 0 :: okByte 0 :: okByte 0 :: okByte 0 :: okByte 0 :: okByte 0 :: [] := rfl

theorem witness_InitAbortKeepsEarlierSteps : (answered running (oks 7 ++ [.error .timeout])).env.replies =
    okByte 0 :: okByte 0 :: okByte 0 :: okByte 0 :: okByte 0 :: okByte 0 :: okByte 0 :: .error .timeout :: [] := rfl

theorem witness_StartClearsSleepBit :
    (answered configured [okByte 0x41, okByte 0]).env.replies = okByte 0x41 :: okByte 0 :: [] := rfl

theorem witness_StopSetsSleepBit :
    (answered configured [okByte 0x01, okByte 0]).env.replies = okByte 0x01 :: okByte 0 :: [] := rfl

theorem witness_ProbeTestsBusAddr :
    (let s := { State.reset with env := { Env.start with scans := [BitVec.twoPow 128 0x68] } };
      s.env.scans = BitVec.twoPow 128 0x68 :: []) := by decide

theorem witness_ChkidComparesConstant : (answered running [okByte 0x68]).env.replies = okByte 0x68 :: [] := rfl

theorem witness_TripleDecodesAndScales :
    ((configured.cache .accel).valid = true ∧ (configured.cache .accel).scale = some 81920) ∧
    ((configured.cache .gyro).valid = true ∧ (configured.cache .gyro).scale = some 328) ∧
    accTable 3 = 20480 ∧ gyrTable 3 = 164 ∧
    (answered configured [.ok #v[0x20, 0, 0xE0, 0, 0, 0]]).env.replies = .ok #v[0x20, 0, 0xE0, 0, 0, 0] :: [] := by decide

theorem witness_NoScaleWithoutValidBit :
    (State.reset.cache .accel).valid = false ∧ (State.reset.cache .gyro).valid = false := by decide

theorem witness_GettempConverts : (answered running [.ok #v[1, 0x54, 0, 0, 0, 0]]).env.replies =
    .ok #v[1, 0x54, 0, 0, 0, 0] :: [] := rfl

theorem witness_FirstReadFailureAborts :
    (answered configured [.error .timeout]).env.replies = .error .timeout :: [] ∧
    (Instr.rdreg 0x3B 6).wellFormed = true ∧ (scaleOf configured (.table .gyro 3)).isSome = true ∧
    (scaleOf configured (.cached .accel)).isSome = true ∧ (scaleOf configured (.cached .gyro)).isSome = true := by decide

theorem witness_WriteFailureAborts :
    (answered running [.error .nack]).env.replies = .error .nack :: [] ∧
    (answered running [okByte 0x01, .error .timeout]).env.replies = okByte 0x01 :: .error .timeout :: [] ∧
    (∀ i ∈ [Instr.rmw 0x1C 0x18 0x18, .setrange .accel 3, .setrange .gyro 0, .init, .reset, .start, .stop],
      ∃ addr mask bits : Byte,
        i = .rmw addr mask bits ∨ (i = .reset ∧ addr = 0x6B ∧ mask = 0x00 ∧ bits = 0x80) ∨
          (i = .start ∧ addr = 0x6B ∧ mask = 0x40 ∧ bits = 0x00) ∨
          (i = .stop ∧ addr = 0x6B ∧ mask = 0x00 ∧ bits = 0x40) ∨
          (∃ r, i = .setrange .accel r ∧ addr = 0x1C ∧ mask = 0x18 ∧ bits = r.setWidth 8 <<< 3) ∨
          (∃ r, i = .setrange .gyro r ∧ addr = 0x1B ∧ mask = 0x18 ∧ bits = r.setWidth 8 <<< 3) ∨
          (i = .init ∧ addr = 0x6B ∧ mask = 0x00 ∧ bits = 0x80)) ∧
    (answered running (oks 2 ++ [.error .nack])).env.replies = okByte 0 :: okByte 0 :: .error .nack :: [] ∧
    (answered running (oks 4 ++ [.error .nack])).env.replies =
      okByte 0 :: okByte 0 :: okByte 0 :: okByte 0 :: .error .nack :: [] ∧
    (answered running (oks 7 ++ [.error .nack])).env.replies =
      okByte 0 :: okByte 0 :: okByte 0 :: okByte 0 :: okByte 0 :: okByte 0 :: okByte 0 :: .error .nack :: [] :=
  ⟨rfl, rfl, by simp, rfl, rfl, rfl⟩

theorem witness_SetrangeAbortLeavesNoRange :
    (∃ t, exec (.setrange .gyro 1) (answered configured [okByte 0, okByte 0, .error .nack]) = .next t ∧ t.cc ≠ .ok) ∧
    (∃ t, exec (.setrange .accel 1) (answered configured [.never true]) = .next t ∧ t.busy = true) :=
  ⟨⟨_, rfl, by decide⟩, ⟨_, rfl, by decide⟩⟩

theorem witness_PlainDeviceStoresAndReturns :
    (let s := onDevice (answered running [okByte 0]) .plain [(0x1C, 0x18), (0x75, 0x68)];
      s.env.device = .plain ∧ Memory.wf s.env.sensor = true ∧ s.env.replies = okByte 0 :: []) ∧
    (1 ≤ (1 : BitVec 3).toNat ∧ (6 : BitVec 3).toNat ≤ 6 ∧ (0xFA : Byte).toNat + (6 : BitVec 3).toNat ≤ 256 ∧
      (0xFF : Byte).toNat + (1 : BitVec 3).toNat ≤ 256) := by decide

theorem witness_CoercingDeviceStores :
    (let s := onDevice (answered running [okByte 0]) (.coerce #v[0, 1, 2, 2] #v[0, 1, 2, 3]) [(0x1C, 0xE7)];
      s.env.device = .coerce #v[0, 1, 2, 2] #v[0, 1, 2, 3] ∧ Memory.wf s.env.sensor = true ∧
        s.env.replies = okByte 0 :: []) := by decide

theorem witness_StartStopIdempotent :
    (let s := onDevice (answered configured (oks 4)) .plain [(0x6B, 0x41)];
      s.env.replies = (List.replicate 4 #v[0, 0, 0, 0, 0, 0]).map .ok ++ [] ∧ s.env.device = .plain ∧
        Memory.wf s.env.sensor = true ∧
        ∀ i : Instr, i = .start ∨ i = .stop → ∃ t u, exec i s = .next t ∧ exec i t = .next u) ∧
    (let s := onDevice (answered configured (oks 18)) .plain [(0x1B, 0xFF), (0x6B, 0x41)];
      s.env.replies = (List.replicate 18 #v[0, 0, 0, 0, 0, 0]).map .ok ++ [] ∧ s.env.device = .plain ∧
        Memory.wf s.env.sensor = true ∧ ∃ t u, exec .init s = .next t ∧ exec .init t = .next u) :=
  ⟨⟨rfl, rfl, rfl, fun _ h => h.elim (fun h => h ▸ ⟨_, _, rfl, rfl⟩) (fun h => h ▸ ⟨_, _, rfl, rfl⟩)⟩,
    rfl, rfl, rfl, _, _, rfl, rfl⟩

theorem witness_ScaleMatchesRange :
    (let s := onDevice (answered State.reset (oks 4)) .plain [(0x1C, 0xE7)];
      s.env.device = .plain ∧ Memory.wf s.env.sensor = true ∧
        s.env.replies = okByte 0 :: okByte 0 :: okByte 0 :: okByte 0 :: []) := by decide

theorem witness_OutputsRoundToNearest : accTable 0 ≠ 0 ∧ gyrTable 3 ≠ 0 := by decide

end Sys2Proof.Tests
end

section
/-! PROOFS. Shared by the statements about single commands: the meaning of a command as the run of its body, and the end
of a body that goes on to its last line. -/

namespace Sys2Proof.Machine

/-- Completion with OK leaves ERRS as it is (10_state.md R32; 60_exceptions.md R210). -/
theorem complete_ok (s : State) : complete .ok 0 s = { s with cc := .ok, errinfo := 0, busy := false } := by
  simp [complete]

/-- A body that goes on to its end completes OK (60_exceptions.md R210). -/
theorem runCommand_of_go {body : State → Flow Unit} {s t : State} (h : body (accept s) = .go () t) :
    runCommand body s = { t with cc := .ok, errinfo := 0, busy := false } := by
  rw [runCommand, h]; exact complete_ok t

/-! The dispatch of the commands whose whole next state is settled below (30_encoding.md R94). -/

theorem exec_rmw (addr maskClear bitsSet : Byte) (s : State) : exec (.rmw addr maskClear bitsSet) s =
    .next (runCommand (fun s => rmw addr maskClear bitsSet (managedWriteEffects addr s)) s) := rfl

theorem exec_rdtriple (addr : Byte) (sel : ScaleSel) (s : State) :
    exec (.rdtriple addr sel) s = .next (runCommand (readTriple addr sel) s) := rfl

/-- GETACC is RDTRIPLE 0x3B, ACC (R190). -/
theorem exec_getacc (s : State) : exec .getacc s = exec (.rdtriple 0x3B (.cached .accel)) s := rfl

/-- GETGYRO is RDTRIPLE 0x43, GYR (R191). -/
theorem exec_getgyro (s : State) : exec .getgyro s = exec (.rdtriple 0x43 (.cached .gyro)) s := rfl

theorem exec_gettemp (s : State) : exec .gettemp s = .next (runCommand (fun s =>
    (memRead tempData 2 s).andThen fun b s => .go () (storeTemperature b s)) s) := rfl

end Sys2Proof.Machine
end

section
/-! PROOFS. The bus trace of a command: the events a command may leave, in the order the bus primitives record them
(00_scope.md R11, 10_state.md R21, 20_memory.md R79). -/

namespace Sys2Proof.Machine

/-- The traces the bus primitives can build while BUS_ADDR is `d`: a successful write comes with its settle wait, every
other event alone. -/
inductive CommandTrace (d : BusAddr) : List BusEvent → Prop
  | nil : CommandTrace d []
  | read {t : List BusEvent} (ht : CommandTrace d t) (addr : Byte) (n : Nat) (r : ReadResult) :
      CommandTrace d (t ++ [.read d addr n r])
  | write {t : List BusEvent} (ht : CommandTrace d t) (addr v : Byte) :
      CommandTrace d (t ++ [.write d addr v .ok, .settle])
  | failedWrite {t : List BusEvent} (ht : CommandTrace d t) (addr v : Byte) {r : WriteResult} (hr : r ≠ .ok) :
      CommandTrace d (t ++ [.write d addr v r])
  | scan {t : List BusEvent} (ht : CommandTrace d t) (present : ScanSet) : CommandTrace d (t ++ [.scan present])

theorem CommandTrace.traceSettled {d : BusAddr} {t : List BusEvent} (h : CommandTrace d t) : traceSettled t = true := by
  induction h with
  | nil => rfl
  | read _ addr n r ih => exact traceSettled_append ih rfl
  | write _ addr v ih => exact traceSettled_append ih rfl
  | failedWrite _ addr v hr ih =>
    exact traceSettled_append ih (by
      simp [Machine.traceSettled, traceSettledFrom, BusEvent.isSettle, BusEvent.owesSettle, hr])
  | scan _ present ih => exact traceSettled_append ih rfl

theorem CommandTrace.carries {d : BusAddr} {t : List BusEvent} (h : CommandTrace d t) : ∀ e ∈ t, e.carries d := by
  induction h with
  | nil => simp
  | read _ addr n r ih => simpa [or_imp, forall_and, BusEvent.carries] using ih
  | write _ addr v ih => simpa [or_imp, forall_and, BusEvent.carries] using ih
  | failedWrite _ addr v hr ih => simpa [or_imp, forall_and, BusEvent.carries] using ih
  | scan _ present ih => simpa [or_imp, forall_and, BusEvent.carries] using ih

/-- The trace of `s` is one the bus primitives build with the BUS_ADDR of `s`. -/
def Traced (s : State) : Prop := CommandTrace s.busAddr s.trace

/-- Only BUS_ADDR and the trace count. -/
theorem Traced.congr {s t : State} (h : Traced s) (hbus : t.busAddr = s.busAddr) (htrace : t.trace = s.trace) :
    Traced t := by
  rw [Traced, hbus, htrace]; exact h

theorem dropCaches_traced {s : State} (h : Traced s) : Traced (dropCaches s) := h.congr rfl rfl

theorem managedWriteEffects_traced {s : State} (h : Traced s) (addr : Byte) :
    Traced (managedWriteEffects addr s) := h.congr rfl rfl

/-- Acceptance begins a new trace (R14, R91). -/
theorem accept_traced (s : State) : Traced (accept s) := .nil

theorem busStable_traced : BusStable Traced where
  read s _ addr n r h _ _ := CommandTrace.read h addr n r
  write s env addr v h _ _ := by
    simpa [Traced] using CommandTrace.write h addr v
  writeFails s _ addr v kind h _ _ := CommandTrace.failedWrite h addr v (by simp)
  writeHangs s _ addr v _ h _ _ := CommandTrace.failedWrite h addr v (by simp)

/-- Wherever the flow stands, its state is `Traced`. -/
def Flow.Traced {α : Type} (r : Flow α) : Prop :=
  r.Sat (fun _ => Machine.Traced) Machine.Traced (fun _ => Machine.Traced) Machine.Traced

/-- A flow that goes on after writing neither BUS_ADDR nor the trace. -/
theorem Traced.go {α : Type} {s t : State} (h : Traced s) (a : α) (hbus : t.busAddr = s.busAddr)
    (htrace : t.trace = s.trace) : (Flow.go a t).Traced := h.congr hbus htrace

theorem Flow.Traced.andThen {α β : Type} {r : Flow α} {next : α → State → Flow β} (hr : r.Traced)
    (hnext : ∀ a s, Machine.Traced s → (next a s).Traced) : (r.andThen next).Traced := Flow.Sat.andThen hr hnext

section Primitives
variable {s : State}

theorem memRead_traced (h : Traced s) (addr : Byte) (n : Nat) : (memRead addr n s).Traced :=
  memRead_keeps busStable_traced h addr n

theorem memWrite_traced (h : Traced s) (addr v : Byte) : (memWrite addr v s).Traced :=
  memWrite_keeps busStable_traced h addr v

theorem rmw_traced (h : Traced s) (addr mask bits : Byte) : (rmw addr mask bits s).Traced :=
  rmw_keeps busStable_traced h addr mask bits

theorem getRangeOp_traced (h : Traced s) (sensor : Sensor) : (getRangeOp sensor s).Traced :=
  getRangeOp_keeps busStable_traced h sensor

theorem setRangeOp_traced (h : Traced s) (sensor : Sensor) (r : RangeEnum) : (setRangeOp sensor r s).Traced :=
  setRangeOp_keeps busStable_traced sensor r (h.congr (by simp) (by simp)) fun _ _ ht => ht.congr (by simp) (by simp)

theorem busScan_traced (h : Traced s) : (busScan s).Traced :=
  busScan_sat fun _ present _ _ => CommandTrace.scan h present

theorem needScale_traced (h : Traced s) (sel : ScaleSel) : (needScale sel s).Traced :=
  needScale_sat (fun _ _ => h) fun _ => h

theorem resetBody_traced (h : Traced s) : (resetBody s).Traced :=
  (rmw_traced (dropCaches_traced h) pwrMgmt1 0x00 resetBit).andThen fun _ _ ht => ht.go _ rfl rfl

theorem wakeBody_traced (h : Traced s) : (wakeBody s).Traced :=
  (memWrite_traced h pwrMgmt1 wakeByte).andThen fun _ _ ht => ht.go _ rfl rfl

theorem initBody_traced (h : Traced s) : (initBody s).Traced :=
  (resetBody_traced h).andThen fun _ _ h1 => (wakeBody_traced h1).andThen fun _ _ h2 =>
    (setRangeOp_traced h2 .accel _).andThen fun _ _ h3 => (setRangeOp_traced h3 .gyro _).andThen fun _ _ h4 => h4

theorem readTriple_traced (h : Traced s) (addr : Byte) (sel : ScaleSel) : (readTriple addr sel s).Traced :=
  (needScale_traced h sel).andThen fun _ _ h1 => (memRead_traced h1 addr 6).andThen fun _ _ h2 => h2.go _ rfl rfl

end Primitives

/-- Completion and abort write neither BUS_ADDR nor the trace (R210, R219). -/
theorem runCommand_traced {body : State → Flow Unit} (hbody : ∀ s, Traced s → (body s).Traced) (s : State) :
    Traced (runCommand body s) :=
  runCommand_of_sat <| (hbody _ (accept_traced s)).imp (fun _ _ h => h.congr rfl rfl) (fun _ h => h.congr rfl rfl)
    (fun _ _ h => h.congr rfl rfl) fun _ h => h

/-- A command that runs a body, and whose body stays `Traced`, answers a `Traced` state. -/
theorem exec_traced_of_body {i : Instr} {s : State} {body : State → Flow Unit}
    (hexec : exec i s = .next (runCommand body s)) (hbody : ∀ s, Traced s → (body s).Traced) :
    ∃ t, exec i s = .next t ∧ Traced t := ⟨_, hexec, runCommand_traced hbody s⟩

/-- Every command, in every state, answers a next state whose trace the bus primitives built. -/
theorem exec_traced (i : Instr) (s : State) : ∃ t, exec i s = .next t ∧ Traced t := by
  cases i with
  | bind busaddr reqA reqG => exact ⟨_, rfl, .nil⟩
  | wrreg addr byte =>
    exact exec_traced_of_body rfl fun _ h => memWrite_traced (managedWriteEffects_traced h addr) addr byte
  | rdreg addr count =>
    refine ⟨_, rfl, ?_⟩
    split
    · exact runCommand_traced (body := fun s => (memRead addr count.toNat s).andThen fun b s =>
        .go () (setRbuf count.toNat b s)) (fun _ h => (memRead_traced h _ _).andThen fun _ _ ht => ht.go _ rfl rfl) s
    · exact (accept_traced s).congr rfl rfl
  | rmw addr mask bits =>
    exact exec_traced_of_body rfl fun _ h => rmw_traced (managedWriteEffects_traced h addr) addr mask bits
  | reset => exact exec_traced_of_body rfl fun _ => resetBody_traced
  | wake => exact exec_traced_of_body rfl fun _ => wakeBody_traced
  | setrange sensor r =>
    exact exec_traced_of_body rfl fun _ h => (setRangeOp_traced h sensor r).andThen fun _ _ ht => ht.go _ rfl rfl
  | getrange sensor =>
    exact exec_traced_of_body rfl fun _ h => (getRangeOp_traced h sensor).andThen fun _ _ ht => ht.go _ rfl rfl
  | init => exact exec_traced_of_body rfl fun _ => initBody_traced
  | start =>
    exact exec_traced_of_body rfl fun _ h => (rmw_traced h _ _ _).andThen fun _ _ ht => ht.go _ rfl rfl
  | stop =>
    exact exec_traced_of_body rfl fun _ h => (rmw_traced h _ _ _).andThen fun _ _ ht => ht.go _ rfl rfl
  | probe => exact exec_traced_of_body rfl fun _ h => (busScan_traced h).andThen fun _ _ ht => ht.go _ rfl rfl
  | chkid =>
    exact exec_traced_of_body rfl fun _ h => (memRead_traced h _ _).andThen fun _ _ ht => ht.go _ rfl rfl
  | rdtriple addr sel => exact exec_traced_of_body rfl fun _ h => readTriple_traced h addr sel
  | getacc => exact exec_traced_of_body rfl fun _ h => readTriple_traced h _ _
  | getgyro => exact exec_traced_of_body rfl fun _ h => readTriple_traced h _ _
  | gettemp =>
    exact exec_traced_of_body rfl fun _ h => (memRead_traced h _ _).andThen fun _ _ ht => ht.go _ rfl rfl

/-- The trace a command leaves is one the bus primitives build with BUS_ADDR. -/
theorem commandTrace_of_exec {i : Instr} {s t : State} (h : exec i s = .next t) : CommandTrace t.busAddr t.trace := by
  obtain ⟨u, hu, htraced⟩ := exec_traced i s
  cases h.symm.trans hu
  exact htraced

/-- Settles O25: the bus primitives build every trace, and each appends a settled piece that carries BUS_ADDR. -/
theorem everyWriteSettles : Obligations.EveryWriteSettles := by
  intro i s t h
  exact ⟨(commandTrace_of_exec h).traceSettled, (commandTrace_of_exec h).carries⟩

end Sys2Proof.Machine
end

section
/-! PROOFS. Rounding to the nearest integer (00_scope.md R10). -/

namespace Sys2Proof.Machine

/-- `rn n d` is within half a unit of `n / d`, both sides multiplied by `2 * d`: the quotient `q` of `2 * n + d` by
`2 * d` has `2 * d * q ≤ 2 * n + d < 2 * d * q + 2 * d`. -/
theorem rn_within_half (n : Int) {d : Int} (hd : 0 < d) : -d ≤ 2 * (rn n d * d - n) ∧ 2 * (rn n d * d - n) ≤ d := by
  have hle : 2 * d * rn n d ≤ 2 * n + d := Int.mul_ediv_self_le (by omega)
  have hlt : 2 * n + d < 2 * d * rn n d + 2 * d := Int.lt_mul_ediv_self_add (by omega)
  have hmul : 2 * d * rn n d = 2 * (rn n d * d) := by ring
  omega

/-- Settles O58: `q16Int` and `qtempInt` are `rn` of their quotients, with positive divisors. -/
theorem outputsRoundToNearest : Obligations.OutputsRoundToNearest := by
  refine ⟨fun raw d hd => rn_within_half _ ?_, fun raw => rn_within_half _ (by decide)⟩
  have : d.toNat ≠ 0 := fun h => hd (BitVec.eq_of_toNat_eq h)
  omega

end Sys2Proof.Machine
end

section
/-! PROOFS. The whole next state of RMW, of the triple decodes and of GETTEMP when every transaction succeeds. -/

namespace Sys2Proof.Machine

/-- Settles O33: the two scripted transactions of `rmw_ok` after the managed-register effects, then `complete`. -/
theorem rmwWritesChangedByte : Obligations.RmwWritesChangedByte := by
  intro addr mask bits s b0 b1 rest h
  have hbody := rmw_ok (addr := addr) (mask := mask) (bits := bits) (s := managedWriteEffects addr (accept s)) h
  rw [exec_rmw, runCommand_of_go hbody]
  rfl

/-- The bytes kept of a read of two bytes (R37). -/
theorem setRbuf_two (b : Burst) (s : State) :
    setRbuf 2 b s = { s with rbuf := #v[some b[0], some b[1], none, none, none, none], rlen := 2 } := rfl

/-- The bytes kept of a read of six bytes (R37). -/
theorem setRbuf_six (b : Burst) (s : State) :
    setRbuf 6 b s = { s with
      rbuf := #v[some b[0], some b[1], some b[2], some b[3], some b[4], some b[5]], rlen := 6 } := rfl

/-- A triple decode with the scale `d` and a successful burst (R189). -/
theorem readTriple_ok {addr : Byte} {sel : ScaleSel} {s : State} {d : Div10} {b : Burst} {rest : List Reply}
    (hd : scaleOf s sel = some d) (h : s.env.replies = .ok b :: rest) :
    readTriple addr sel s = .go () (storeTriple d (deviceRead { s.env with replies := rest } addr b)
      { s with
        env := { s.env with replies := rest }
        trace := s.trace ++
          [.read s.busAddr addr 6 (.bytes (deviceRead { s.env with replies := rest } addr b).toList)] }) := by
  rw [readTriple, needScale, hd]
  simp only [Flow.andThen]
  rw [memRead_ok h, burst_take_six]
  rfl

/-- The whole next state of a triple decode with the scale `d` and a successful burst (R189). -/
theorem exec_rdtriple_ok {addr : Byte} {sel : ScaleSel} {s : State} {d : Div10} {b : Burst} {rest : List Reply}
    (hd : scaleOf s sel = some d) (h : s.env.replies = .ok b :: rest) :
    exec (.rdtriple addr sel) s = .next
      { storeTriple d (deviceRead { s.env with replies := rest } addr b) s.cleared with
        cc := .ok, errinfo := 0, busy := false, env := { s.env with replies := rest }
        trace := [.read s.busAddr addr 6 (.bytes (deviceRead { s.env with replies := rest } addr b).toList)] } := by
  have hbody := readTriple_ok (addr := addr) (s := accept s) ((scaleOf_congr sel rfl rfl).trans hd) h
  rw [exec_rdtriple, runCommand_of_go hbody]
  rfl

/-- Settles O45: the premise names the scale of `exec_rdtriple_ok`; GETACC and GETGYRO are triple decodes. -/
theorem tripleDecodesAndScales : Obligations.TripleDecodesAndScales := by
  intro addr sel d s b rest hscale h
  have hd : scaleOf s sel = some d := by
    rcases sel with sensor | ⟨_ | _, r⟩
    · simp [scaleOf, hscale]
    · simp [scaleOf, scaleTable, hscale]
    · simp [scaleOf, scaleTable, hscale]
  have hexec := exec_rdtriple_ok (addr := addr) hd h
  rw [storeTriple, setRbuf_six] at hexec
  refine ⟨hexec, ?_, ?_⟩
  · rintro rfl rfl
    exact (exec_getacc s).trans hexec
  · rintro rfl rfl
    exact (exec_getgyro s).trans hexec

/-- A temperature read with a successful burst (R192). -/
theorem readTemperature_ok {s : State} {b : Burst} {rest : List Reply} (h : s.env.replies = .ok b :: rest) :
    let bytes := deviceRead { s.env with replies := rest } tempData b
    ((memRead tempData 2 s).andThen fun b s => .go () (storeTemperature b s)) = .go () (storeTemperature bytes
      { s with
        env := { s.env with replies := rest }
        trace := s.trace ++ [.read s.busAddr tempData 2 (.bytes [bytes[0], bytes[1]])] }) := by
  rw [memRead_ok h, burst_take_two]
  rfl

/-- Settles O48: the body ends at `readTemperature_ok`, then `complete`. -/
theorem gettempConverts : Obligations.GettempConverts := by
  intro s b rest h
  rw [exec_gettemp, runCommand_of_go (readTemperature_ok (s := accept s) h), storeTemperature, setRbuf_two]
  rfl

end Sys2Proof.Machine
end

section
/-! PROOFS. The step of an idle block to which the host presents a command word (30_encoding.md R91, R94). -/

namespace Sys2Proof.Machine

/-- An idle block runs the command the host's next input presents. -/
theorem step_of_write_cmd {s : State} {w : Word} {i : Instr} {rest : List HostInput} (hidle : s.busy = false)
    (hinputs : s.inputs = .write cmdIndex w :: rest) (hdecode : decode w = .ok i) :
    step s = exec i { s with inputs := rest } := by
  simp [step, hostStep, hinputs, hostWrite, hidle, issueWord, hdecode]

/-- Reading a table word succeeds when the decoder accepts the word (R94). -/
theorem decode_of_decodeTableWord {nbits w : Nat} {i : Instr} (h : decodeTableWord nbits w = some i) :
    decode (tableWord nbits w) = .ok i := by
  unfold decodeTableWord at h
  split at h
  next j hj => exact hj.trans (congrArg Except.ok (Option.some.inj h))
  next => contradiction

/-- Settles O1: a presented word is the host's next input of an idle block. -/
theorem stepRunsDecodedCommand : Obligations.StepRunsDecodedCommand := by
  refine ⟨fun s w i rest hidle hinputs hdecode => step_of_write_cmd hidle hinputs hdecode, fun s nbits w i h => ?_⟩
  exact step_of_write_cmd (s := s.withFetchWord nbits w) rfl rfl (decode_of_decodeTableWord h)

end Sys2Proof.Machine
end

section
/-! PROOFS. What a command can do to the registers: one body for each command, the registers it has written when it goes
on to its end and when a transaction fails or never returns, and the ways a command can end (60_exceptions.md R210, R213,
R219, R228). -/

namespace Sys2Proof.Machine

/-- The body of a legal command, from its acceptance to its completion. BIND's also clears ERRS (R143). -/
def commandBody : Instr → State → Flow Unit
  | .bind busaddr reqA reqG, s => .go () { bindRegisters busaddr reqA reqG s with errs := false }
  | .wrreg addr byte, s => memWrite addr byte (managedWriteEffects addr s)
  | .rdreg addr count, s => (memRead addr count.toNat s).andThen fun b s => .go () (setRbuf count.toNat b s)
  | .rmw addr mask bits, s => rmw addr mask bits (managedWriteEffects addr s)
  | .reset, s => resetBody s
  | .wake, s => wakeBody s
  | .setrange sensor r, s => (setRangeOp sensor r s).andThen fun e s => .go () (setRes (e.setWidth 8) s)
  | .getrange sensor, s => (getRangeOp sensor s).andThen fun e s => .go () (setRes (e.setWidth 8) s)
  | .init, s => initBody s
  | .start, s => (rmw pwrMgmt1 sleepBit 0x00 s).andThen fun _ s =>
      .go () { s with run := true, lstate := lstateAfterStart s.lstate }
  | .stop, s => (rmw pwrMgmt1 0x00 sleepBit s).andThen fun _ s =>
      .go () { s with run := false, lstate := lstateAfterStop s.lstate }
  | .probe, s => (busScan s).andThen fun present s =>
      .go () (setRes (if present.getLsbD s.busAddr.toNat then 1 else 0) s)
  | .chkid, s => (memRead deviceId 1 s).andThen fun v s =>
      .go () (setRes (if v[0] = deviceIdExpected then 1 else 0) s)
  | .rdtriple addr sel, s => readTriple addr sel s
  | .getacc, s => readTriple accelData (.cached .accel) s
  | .getgyro, s => readTriple gyroData (.cached .gyro) s
  | .gettemp, s => (memRead tempData 2 s).andThen fun b s => .go () (storeTemperature b s)

/-- A legal command is the run of its body. -/
theorem exec_of_wellFormed {i : Instr} (h : i.wellFormed = true) (s : State) :
    exec i s = .next (runCommand (commandBody i) s) := by
  cases i with
  | rdreg addr count => exact congrArg Host.Outcome.next (if_pos h)
  | _ => rfl

/-- An RDREG with a count no word decodes to completes ILLEGAL_CMD (log 17). -/
theorem exec_of_not_wellFormed {i : Instr} (h : i.wellFormed = false) (s : State) :
    exec i s = .next (illegalCommand s) := by
  cases i with
  | rdreg addr count => exact congrArg Host.Outcome.next (if_neg (by simpa [Instr.wellFormed] using h))
  | _ => cases h

/-! ### What the bus primitives change -/

/-- The second state is the first but for what the bus primitives change: the environment, whose memory stays canonical,
the settle timer, which stays or is idle, and the trace. -/
inductive BusOnly (s : State) : State → Prop
  | intro (env : Env) (timer : Nat) (trace : List BusEvent)
      (hmem : Memory.wf s.env.sensor = true → Memory.wf env.sensor = true)
      (htimer : timer = 0 ∨ timer = s.settleTimer) :
      BusOnly s { s with env := env, settleTimer := timer, trace := trace }

theorem BusOnly.refl (s : State) : BusOnly s s := .intro s.env s.settleTimer s.trace id (.inr rfl)

/-- An update that neither reads nor writes what the bus primitives change may be made before them. -/
theorem BusOnly.map {s t : State} (h : BusOnly s t) (f : State → State)
    (hf : ∀ u env timer trace, f { u with env := env, settleTimer := timer, trace := trace } =
      { f u with env := env, settleTimer := timer, trace := trace }) : BusOnly (f s) (f t) := by
  have hs : f s = { f s with env := s.env, settleTimer := s.settleTimer, trace := s.trace } := hf s _ _ _
  have henv : (f s).env = s.env := by rw [hs]
  have htime : (f s).settleTimer = s.settleTimer := by rw [hs]
  obtain ⟨env, timer, trace, hmem, htimer⟩ := h
  rw [hf s env timer trace]
  exact .intro _ _ _ (by rwa [henv]) (by rwa [htime])

theorem busStable_busOnly (s : State) : BusStable (BusOnly s) where
  read _ env _ _ _ h _ hsensor := by
    obtain ⟨_, timer, _, hmem, htimer⟩ := h
    exact .intro env timer _ (by simpa [hsensor] using hmem) htimer
  write _ env addr v h _ hsensor := by
    obtain ⟨_, _, _, hmem, _⟩ := h
    exact .intro _ 0 _ (fun hs => deviceWrite_wf addr v (by simpa [hsensor] using hmem hs)) (.inl rfl)
  writeFails _ env _ _ _ h _ hsensor := by
    obtain ⟨_, timer, _, hmem, htimer⟩ := h
    exact .intro env timer _ (by simpa [hsensor] using hmem) htimer
  writeHangs _ env addr v landed h _ hsensor := by
    obtain ⟨_, timer, _, hmem, htimer⟩ := h
    exact .intro _ timer _ (fun hs => deviceCutWrite_wf landed addr v (by simpa [hsensor] using hmem hs)) htimer

section Bodies
variable {u s : State} {N C : State → Prop}

/-! From a state that is `u` but for bus activity, each operation goes on in a state that is an update of `u` but for bus
activity; where it is cut short, by a failure or a hang, a property `C` holds that the update made so far implies. None of
them completes NO_SCALE, so `N` is arbitrary. -/

theorem memRead_busOnly (h : BusOnly u s) (hC : ∀ t, BusOnly u t → C t) (addr : Byte) (n : Nat) :
    (memRead addr n s).Sat (fun _ => BusOnly u) N (fun _ => C) C :=
  have hread {env : Env} (he : env = (nextReply s.env).2) (r : ReadResult) :=
    (busStable_busOnly u).read s env addr n r h (by simp [he]) (by simp [he])
  memRead_sat (fun _ _ he => hread he _) (fun _ _ he => hC _ (hread he _)) fun _ he => hC _ (hread he _)

theorem memWrite_busOnly (h : BusOnly u s) (hC : ∀ t, BusOnly u t → C t) (addr v : Byte) :
    (memWrite addr v s).Sat (fun _ => BusOnly u) N (fun _ => C) C :=
  memWrite_sat (fun _ he => (busStable_busOnly u).write _ _ _ _ h (by simp [he]) (by simp [he]))
    (fun _ _ he => hC _ ((busStable_busOnly u).writeFails _ _ _ _ _ h (by simp [he]) (by simp [he])))
    (fun _ _ he => hC _ ((busStable_busOnly u).writeHangs _ _ _ _ _ h (by simp [he]) (by simp [he])))

theorem rmw_busOnly (h : BusOnly u s) (hC : ∀ t, BusOnly u t → C t) (addr mask bits : Byte) :
    (rmw addr mask bits s).Sat (fun _ => BusOnly u) N (fun _ => C) C :=
  rmw_sat (memRead_busOnly h hC addr 1) fun _ _ ht => memWrite_busOnly ht hC addr _

theorem getRangeOp_busOnly (h : BusOnly u s) (hC : ∀ t, BusOnly u t → C t) (sensor : Sensor) :
    (getRangeOp sensor s).Sat (fun _ => BusOnly u) N (fun _ => C) C :=
  (memRead_busOnly h hC (cfgAddr sensor) 1).andThen fun _ _ ht => ht

theorem setRangeOp_busOnly (h : BusOnly u s) (sensor : Sensor) (r : RangeEnum)
    (hC : ∀ t, BusOnly (dropCache sensor u) t → C t) :
    (setRangeOp sensor r s).Sat (fun e => BusOnly (storeReadBack sensor r e (dropCache sensor u))) N (fun _ => C) C :=
  have hdrop := h.map (dropCache sensor) fun _ _ _ _ => by cases sensor <;> rfl
  (rmw_busOnly hdrop hC _ _ _).andThen fun _ _ hrmw =>
    (getRangeOp_busOnly hrmw hC sensor).andThen fun e _ hget =>
      hget.map (storeReadBack sensor r e) fun _ _ _ _ => by cases sensor <;> rfl

theorem resetBody_busOnly (h : BusOnly u s) (hC : ∀ t, BusOnly (dropCaches u) t → C t) :
    (resetBody s).Sat (fun _ => BusOnly { dropCaches u with lstate := .reset }) N (fun _ => C) C :=
  (rmw_busOnly (h.map dropCaches fun _ _ _ _ => rfl) hC _ _ _).andThen fun _ _ ht =>
    ht.map (fun t => { t with lstate := .reset }) fun _ _ _ _ => rfl

theorem wakeBody_busOnly (h : BusOnly u s) (hC : ∀ t, BusOnly u t → C t) :
    (wakeBody s).Sat (fun _ => BusOnly { u with lstate := lstateAfterWake u.lstate }) N (fun _ => C) C :=
  (memWrite_busOnly h hC _ _).andThen fun _ _ ht =>
    ht.map (fun t => { t with lstate := lstateAfterWake t.lstate }) fun _ _ _ _ => rfl

end Bodies

/-! ### The registers a command has written -/

/-- The registers after a command accepted in `s` that goes on to its end, up to bus activity. -/
inductive OkEffect (s : State) : Instr → State → Prop
  | bind (busaddr : BusAddr) (reqA reqG : RangeEnum) :
      OkEffect s (.bind busaddr reqA reqG) { bindRegisters busaddr reqA reqG s with errs := false }
  | wrreg (addr byte : Byte) : OkEffect s (.wrreg addr byte) (managedWriteEffects addr s)
  | rdreg (addr : Byte) {count : BitVec 3} (hcount : countInRange count = true) (b : Burst) :
      OkEffect s (.rdreg addr count) (setRbuf count.toNat b s)
  | rmw (addr mask bits : Byte) : OkEffect s (.rmw addr mask bits) (managedWriteEffects addr s)
  | reset : OkEffect s .reset { dropCaches s with lstate := .reset }
  | wake : OkEffect s .wake { s with lstate := lstateAfterWake s.lstate }
  | setrange (sensor : Sensor) (r e : RangeEnum) :
      OkEffect s (.setrange sensor r) (setRes (e.setWidth 8) (storeReadBack sensor r e (dropCache sensor s)))
  | getrange (sensor : Sensor) (v : Byte) : OkEffect s (.getrange sensor) (setRes v s)
  | init (a g : RangeEnum) : OkEffect s .init { s with
      acc := readBackCache .accel s.reqA a, gyr := readBackCache .gyro s.reqG g, lstate := .configured }
  | start : OkEffect s .start { s with run := true, lstate := lstateAfterStart s.lstate }
  | stop : OkEffect s .stop { s with run := false, lstate := lstateAfterStop s.lstate }
  | probe (v : Byte) : OkEffect s .probe (setRes v s)
  | chkid (v : Byte) : OkEffect s .chkid (setRes v s)
  | rdtriple (addr : Byte) (sel : ScaleSel) (d : Div10) (b : Burst) :
      OkEffect s (.rdtriple addr sel) (storeTriple d b s)
  | getacc (d : Div10) (b : Burst) : OkEffect s .getacc (storeTriple d b s)
  | getgyro (d : Div10) (b : Burst) : OkEffect s .getgyro (storeTriple d b s)
  | gettemp (b : Burst) : OkEffect s .gettemp (storeTemperature b s)

/-- The registers of a command accepted in `s` when one of its transactions fails or never returns, up to bus activity.
BIND and PROBE make none. INIT has by then dropped both caches, and it may have stored the accelerometer's again (R152). -/
inductive CutEffect (s : State) : Instr → State → Prop
  | wrreg (addr byte : Byte) : CutEffect s (.wrreg addr byte) (managedWriteEffects addr s)
  | rdreg (addr : Byte) (count : BitVec 3) : CutEffect s (.rdreg addr count) s
  | rmw (addr mask bits : Byte) : CutEffect s (.rmw addr mask bits) (managedWriteEffects addr s)
  | reset : CutEffect s .reset (dropCaches s)
  | wake : CutEffect s .wake s
  | setrange (sensor : Sensor) (r : RangeEnum) : CutEffect s (.setrange sensor r) (dropCache sensor s)
  | getrange (sensor : Sensor) : CutEffect s (.getrange sensor) s
  | init (c : RangeCache) (l : LState) (hc : c = RangeCache.empty ∨ ∃ a, c = readBackCache .accel s.reqA a) :
      CutEffect s .init { s with acc := c, gyr := RangeCache.empty, lstate := l }
  | start : CutEffect s .start s
  | stop : CutEffect s .stop s
  | chkid : CutEffect s .chkid s
  | rdtriple (addr : Byte) (sel : ScaleSel) : CutEffect s (.rdtriple addr sel) s
  | getacc : CutEffect s .getacc s
  | getgyro : CutEffect s .getgyro s
  | gettemp : CutEffect s .gettemp s

/-- A command that is cut short has written no register but the caches and LSTATE. -/
theorem CutEffect.frame {s u : State} {i : Instr} (h : CutEffect s i u) :
    ∃ acc gyr l, u = { s with acc := acc, gyr := gyr, lstate := l } := by
  cases h with
  | setrange sensor r => cases sensor <;> exact ⟨_, _, _, rfl⟩
  | _ => exact ⟨_, _, _, rfl⟩

/-- The selector of the scale a command needs, if it needs one (R188, R190, R191). -/
def scaleSel : Instr → Option ScaleSel
  | .rdtriple _ sel => some sel
  | .getacc => some (.cached .accel)
  | .getgyro => some (.cached .gyro)
  | _ => none

/-- A weaker conclusion where the flow goes on. -/
theorem Flow.Sat.imp_go {α : Type} {r : Flow α} {G G' : α → State → Prop} {N H : State → Prop}
    {E : Failure → State → Prop} (hr : r.Sat G N E H) (hg : ∀ a s, G a s → G' a s) : r.Sat G' N E H :=
  hr.imp hg (fun _ h => h) (fun _ _ h => h) fun _ h => h

/-- Where the body of `i`, begun in `s`, may stand. -/
def Flow.StandsFor (i : Instr) (s : State) (r : Flow Unit) : Prop :=
  r.Sat (fun _ t => ∃ u, OkEffect s i u ∧ BusOnly u t)
    (fun t => t = s ∧ ∃ sel, scaleSel i = some sel ∧ scaleOf s sel = none)
    (fun _ t => ∃ u, CutEffect s i u ∧ BusOnly u t) (fun t => ∃ u, CutEffect s i u ∧ BusOnly u t)

/-- A triple decode stands for every command that is one (R189 to R191). -/
theorem readTriple_standsFor {i : Instr} {s : State} {addr : Byte} {sel : ScaleSel} (hsel : scaleSel i = some sel)
    (hok : ∀ d b, OkEffect s i (storeTriple d b s)) (hcut : CutEffect s i s) :
    (readTriple addr sel s).StandsFor i s :=
  Flow.Sat.andThen (G := fun _ t => t = s) (needScale_sat (fun _ _ => rfl) fun hnone => ⟨rfl, sel, hsel, hnone⟩)
    fun d t ht => by
      subst ht
      exact (memRead_busOnly (.refl t) (fun _ h => ⟨t, hcut, h⟩) addr 6).andThen fun b _ h =>
        ⟨_, hok d b, h.map (storeTriple d b) fun _ _ _ _ => rfl⟩

/-- The four operations of INIT, each from the registers the one before leaves (R152). -/
theorem initBody_standsFor (s : State) : (initBody s).StandsFor .init s := by
  refine (resetBody_busOnly (.refl s) fun _ h => ⟨_, .init _ s.lstate (.inl rfl), h⟩).andThen fun _ _ h => ?_
  refine (wakeBody_busOnly h fun _ h => ⟨_, .init _ .reset (.inl rfl), h⟩).andThen fun _ t h => ?_
  have hreqA : t.reqA = s.reqA := by cases h; rfl
  rw [hreqA]
  refine (setRangeOp_busOnly h .accel s.reqA fun _ h => ⟨_, .init _ .awake (.inl rfl), h⟩).andThen fun a t h => ?_
  replace h : BusOnly { s with
    acc := readBackCache .accel s.reqA a, gyr := RangeCache.empty, lstate := .awake } t := h
  have hreqG : t.reqG = s.reqG := by cases h; rfl
  rw [hreqG]
  exact (setRangeOp_busOnly h .gyro s.reqG fun _ h => ⟨_, .init _ .awake (.inr ⟨a, rfl⟩), h⟩).andThen
    fun g _ h => ⟨_, .init a g, h⟩

/-- Where the body of a legal command may stand. -/
theorem commandBody_standsFor {i : Instr} (hi : i.wellFormed = true) (s : State) :
    (commandBody i s).StandsFor i s := by
  cases i with
  | bind busaddr reqA reqG => exact ⟨_, .bind busaddr reqA reqG, .refl _⟩
  | wrreg addr byte =>
    exact (memWrite_busOnly (.refl _) (fun _ h => ⟨_, .wrreg addr byte, h⟩) addr byte).imp_go
      fun _ _ h => ⟨_, .wrreg addr byte, h⟩
  | rdreg addr count =>
    exact (memRead_busOnly (.refl s) (fun _ h => ⟨_, .rdreg addr count, h⟩) _ _).andThen fun b _ h =>
      ⟨_, .rdreg addr hi b, h.map (setRbuf count.toNat b) fun _ _ _ _ => rfl⟩
  | rmw addr mask bits =>
    exact (rmw_busOnly (.refl _) (fun _ h => ⟨_, .rmw addr mask bits, h⟩) addr mask bits).imp_go
      fun _ _ h => ⟨_, .rmw addr mask bits, h⟩
  | reset =>
    exact (resetBody_busOnly (.refl s) fun _ h => ⟨_, .reset, h⟩).imp_go
      fun _ _ h => ⟨_, .reset, h⟩
  | wake =>
    exact (wakeBody_busOnly (.refl s) fun _ h => ⟨_, .wake, h⟩).imp_go
      fun _ _ h => ⟨_, .wake, h⟩
  | setrange sensor r =>
    exact (setRangeOp_busOnly (.refl s) sensor r fun _ h => ⟨_, .setrange sensor r, h⟩).andThen fun e _ h =>
      ⟨_, .setrange sensor r e, h.map (setRes (e.setWidth 8)) fun _ _ _ _ => rfl⟩
  | getrange sensor =>
    exact (getRangeOp_busOnly (.refl s) (fun _ h => ⟨_, .getrange sensor, h⟩) sensor).andThen fun e _ h =>
      ⟨_, .getrange sensor _, h.map (setRes (e.setWidth 8)) fun _ _ _ _ => rfl⟩
  | init => exact initBody_standsFor s
  | start =>
    exact (rmw_busOnly (.refl s) (fun _ h => ⟨_, .start, h⟩) _ _ _).andThen fun _ _ h =>
      ⟨_, .start, h.map (fun s => { s with run := true, lstate := lstateAfterStart s.lstate }) fun _ _ _ _ => rfl⟩
  | stop =>
    exact (rmw_busOnly (.refl s) (fun _ h => ⟨_, .stop, h⟩) _ _ _).andThen fun _ _ h =>
      ⟨_, .stop, h.map (fun s => { s with run := false, lstate := lstateAfterStop s.lstate }) fun _ _ _ _ => rfl⟩
  | probe => exact ⟨_, .probe _, .intro _ s.settleTimer _ (by simp) (.inr rfl)⟩
  | chkid =>
    exact (memRead_busOnly (.refl s) (fun _ h => ⟨_, .chkid, h⟩) _ _).andThen fun v _ h =>
      ⟨_, .chkid _, h.map (setRes _) fun _ _ _ _ => rfl⟩
  | rdtriple addr sel => exact readTriple_standsFor rfl (.rdtriple addr sel) (.rdtriple addr sel)
  | getacc => exact readTriple_standsFor rfl .getacc .getacc
  | getgyro => exact readTriple_standsFor rfl .getgyro .getgyro
  | gettemp =>
    exact (memRead_busOnly (.refl s) (fun _ h => ⟨_, .gettemp, h⟩) _ _).andThen fun b _ h =>
      ⟨_, .gettemp b, h.map (storeTemperature b) fun _ _ _ _ => rfl⟩

/-- The state a command `i` issued in `s` leaves, by the way it ended. -/
inductive CommandEnd (i : Instr) (s : State) : State → Prop
  /-- It completed OK (R210). -/
  | ok {u t : State} (hu : OkEffect (accept s) i u) (ht : BusOnly u t) : CommandEnd i s (complete .ok 0 t)
  /-- It needed a scale that has no value (R213). -/
  | noScale {sel : ScaleSel} (hsel : scaleSel i = some sel) (hnone : scaleOf s sel = none) :
      CommandEnd i s (complete .noScale 0 (accept s))
  /-- It is no legal command (R97; log 17). -/
  | illegal (hi : i.wellFormed = false) : CommandEnd i s (illegalCommand s)
  /-- A transaction failed (R219). -/
  | aborted {u t : State} (hu : CutEffect (accept s) i u) (ht : BusOnly u t) (f : Failure) : CommandEnd i s (abort f t)
  /-- A transaction never returned (R228). -/
  | hung {u t : State} (hu : CutEffect (accept s) i u) (ht : BusOnly u t) : CommandEnd i s t

/-- Every command ends in one of these ways. -/
theorem commandEnd_of_exec {i : Instr} {s t : State} (h : exec i s = .next t) : CommandEnd i s t := by
  cases hi : i.wellFormed with
  | false =>
    cases h.symm.trans (exec_of_not_wellFormed hi s)
    exact .illegal hi
  | true =>
    cases h.symm.trans (exec_of_wellFormed hi s)
    refine runCommand_of_sat ((commandBody_standsFor hi (accept s)).imp ?_ ?_ ?_ ?_)
    · rintro - t ⟨u, hu, ht⟩
      exact .ok hu ht
    · rintro t ⟨rfl, sel, hsel, hnone⟩
      exact .noScale hsel ((scaleOf_congr sel rfl rfl).trans hnone)
    · rintro f t ⟨u, hu, ht⟩
      exact .aborted hu ht f
    · rintro t ⟨u, hu, ht⟩
      exact .hung hu ht

end Sys2Proof.Machine
end

section
/-! PROOFS. The invariants of the state between steps (10_state.md R25 to R37). -/

namespace Sys2Proof.Machine

/-- Both range caches are well formed (R25, R26). -/
def CachesOk (s : State) : Prop := ∀ sensor, CacheOk sensor (s.cache sensor)

theorem State.Inv.cachesOk {s : State} (h : s.Inv) : CachesOk s
  | .accel => h.accCache
  | .gyro => h.gyrCache

theorem cacheOk_readBackCache (sensor : Sensor) (r e : RangeEnum) : CacheOk sensor (readBackCache sensor r e) :=
  .inr ⟨e, _, rfl⟩

theorem CachesOk.dropCache {s : State} (h : CachesOk s) (sensor : Sensor) : CachesOk (dropCache sensor s) := by
  intro other
  rw [dropCache_cache]
  split
  · exact .inl rfl
  · exact h other

theorem CachesOk.storeReadBack {s : State} (h : CachesOk s) (sensor : Sensor) (r e : RangeEnum) :
    CachesOk (storeReadBack sensor r e s) := by
  intro other
  rw [storeReadBack_cache]
  split
  next heq => exact heq ▸ cacheOk_readBackCache sensor r e
  next => exact h other

theorem CachesOk.managedWriteEffects {s : State} (h : CachesOk s) (addr : Byte) :
    CachesOk (managedWriteEffects addr s) := by
  intro sensor
  have hdropped (p : Prop) [Decidable p] : CacheOk sensor (if p then RangeCache.empty else s.cache sensor) := by
    split
    · exact .inl rfl
    · exact h sensor
  cases sensor <;> exact hdropped _

theorem OkEffect.cachesOk {s u : State} {i : Instr} (h : OkEffect s i u) (hs : CachesOk s) : CachesOk u := by
  cases h with
  | bind | reset => rintro (_ | _) <;> exact .inl rfl
  | wrreg addr | rmw addr => exact hs.managedWriteEffects addr
  | setrange sensor r e => exact (hs.dropCache sensor).storeReadBack sensor r e
  | init a g => rintro (_ | _) <;> exact cacheOk_readBackCache _ _ _
  | _ => exact hs

theorem CutEffect.cachesOk {s u : State} {i : Instr} (h : CutEffect s i u) (hs : CachesOk s) : CachesOk u := by
  cases h with
  | reset => exact (hs.dropCache .accel).dropCache .gyro
  | wrreg addr | rmw addr => exact hs.managedWriteEffects addr
  | setrange sensor => exact hs.dropCache sensor
  | init c l hc =>
    rintro (_ | _)
    · obtain rfl | ⟨a, rfl⟩ := hc
      · exact .inl rfl
      · exact cacheOk_readBackCache _ _ _
    · exact .inl rfl
  | _ => exact hs

/-! ### The result registers -/

theorem resultsOk_of_noResults {s : State} (h : NoResults s) : ResultsOk s := by
  obtain ⟨hrbuf, hrlen, -⟩ := h
  simp [ResultsOk, hrbuf, hrlen, Fin.forall_fin_succ]

theorem accept_noResults (s : State) : NoResults (accept s) := ⟨rfl, rfl, rfl, rfl, rfl⟩

/-- A read of at most six bytes fills RBUF up to RLEN (R37). -/
theorem setRbuf_resultsOk {n : Nat} (hn : n ≤ 6) (b : Burst) (s : State) : ResultsOk (setRbuf n b s) := by
  have hrlen : (setRbuf n b s).rlen.toNat = n := by simp [setRbuf]; omega
  refine ⟨hrlen.trans_le hn, fun i => ?_⟩
  rw [hrlen]
  by_cases hi : i.val < n <;> simp [setRbuf, hi]

theorem OkEffect.resultsOk {s u : State} {i : Instr} (h : OkEffect s i u) (hs : ResultsOk s) : ResultsOk u := by
  cases h with
  | rdreg addr hcount b => exact setRbuf_resultsOk (of_decide_eq_true hcount).2 b s
  | rdtriple | getacc | getgyro => exact setRbuf_resultsOk (n := 6) (by decide) _ s
  | gettemp b => exact setRbuf_resultsOk (n := 2) (by decide) b s
  | setrange sensor => cases sensor <;> exact hs
  | _ => exact hs

/-! ### LSTATE -/

/-- An LSTATE before CONFIGURED promises nothing (R30). -/
theorem lifecycleOk_of_not_configured {s : State} (h : s.lstate.isConfigured = false) : LifecycleOk s := by
  cases hl : s.lstate <;> simp_all [LifecycleOk, LState.isConfigured]

/-- WAKE leaves LSTATE before CONFIGURED (R146). -/
theorem lstateAfterWake_not_configured (l : LState) : (lstateAfterWake l).isConfigured = false := by
  cases l <;> rfl

theorem managedWriteEffects_lifecycleOk {s : State} (hs : LifecycleOk s) (addr : Byte) :
    LifecycleOk (managedWriteEffects addr s) := by
  by_cases h : addr = gyroConfig ∨ addr = accelConfig ∨ addr = pwrMgmt1
  · exact lifecycleOk_of_not_configured (by simp [managedWriteEffects, h, LState.isConfigured])
  · have hkept : managedWriteEffects addr s = s := by simp_all [managedWriteEffects]
    rwa [hkept]

theorem lstateAfterRangeSet_cases (l : LState) (avalid gvalid : Bool) :
    lstateAfterRangeSet l avalid gvalid = .configured ∧ avalid = true ∧ gvalid = true ∨
      lstateAfterRangeSet l avalid gvalid = l := by
  unfold lstateAfterRangeSet
  split
  next h => exact .inl ⟨rfl, h.2⟩
  next => exact .inr rfl

/-- A range-set operation that completes makes no valid bit 0, and reaches CONFIGURED only with both 1 (R148). -/
theorem setRange_lifecycleOk {s : State} (hs : LifecycleOk s) (sensor : Sensor) (r e : RangeEnum) :
    LifecycleOk (storeReadBack sensor r e (dropCache sensor s)) := by
  obtain ⟨hconf, hrunning, hstopped⟩ := hs
  set t := storeReadBack sensor r e (dropCache sensor s) with ht
  have hrun : t.run = s.run := by simp [ht]
  have hacc : s.acc.valid = true → t.acc.valid = true := by
    cases sensor <;> simp [ht, storeReadBack, dropCache, readBackCache]
  have hgyr : s.gyr.valid = true → t.gyr.valid = true := by
    cases sensor <;> simp [ht, storeReadBack, dropCache, readBackCache]
  have hl : t.lstate = lstateAfterRangeSet s.lstate t.acc.valid t.gyr.valid := by cases sensor <;> rfl
  rw [LifecycleOk, hrun]
  rcases lstateAfterRangeSet_cases s.lstate t.acc.valid t.gyr.valid with ⟨heq, hvalid⟩ | heq
  · rw [hl, heq]
    exact ⟨fun _ => hvalid, nofun, nofun⟩
  · rw [hl, heq]
    exact ⟨fun hc => (hconf hc).imp hacc hgyr, hrunning, hstopped⟩

theorem start_lifecycleOk {s : State} (hs : LifecycleOk s) :
    LifecycleOk { s with run := true, lstate := lstateAfterStart s.lstate } := by
  obtain ⟨hconf, -, -⟩ := hs
  cases hl : s.lstate <;> simp_all [LifecycleOk, lstateAfterStart, LState.isConfigured]

theorem stop_lifecycleOk {s : State} (hs : LifecycleOk s) :
    LifecycleOk { s with run := false, lstate := lstateAfterStop s.lstate } := by
  obtain ⟨hconf, -, -⟩ := hs
  cases hl : s.lstate <;> simp_all [LifecycleOk, lstateAfterStop, LState.isConfigured]

theorem OkEffect.lifecycleOk {s u : State} {i : Instr} (h : OkEffect s i u) (hs : LifecycleOk s) : LifecycleOk u := by
  cases h with
  | bind | reset => exact lifecycleOk_of_not_configured rfl
  | wrreg addr | rmw addr => exact managedWriteEffects_lifecycleOk hs addr
  | wake => exact lifecycleOk_of_not_configured (lstateAfterWake_not_configured _)
  | setrange sensor r e => exact setRange_lifecycleOk hs sensor r e
  | init a g => exact ⟨fun _ => ⟨rfl, rfl⟩, by simp, by simp⟩
  | start => exact start_lifecycleOk hs
  | stop => exact stop_lifecycleOk hs
  | _ => exact hs

/-! ### Commands and steps -/

/-- A state that differs from one with the invariants in the counter of free values, the host's inputs and
what the host last read has them too. -/
theorem State.Inv.hostSide {s : State} (h : s.Inv) (drawn : Nat) (inputs : List HostInput) (hostData : Word) :
    State.Inv { s with env := { s.env with drawn := drawn }, inputs := inputs, hostData := hostData } :=
  ⟨h.memory, h.accCache, h.gyrCache, h.results, h.status, h.timerIdle, h.settled, h.addressed, h.lifecycle⟩

/-- The invariants that hold in the middle of a command too. -/
structure RunningInv (s : State) : Prop where
  memory : Memory.wf s.env.sensor = true
  caches : CachesOk s
  results : ResultsOk s
  timerIdle : s.settleTimer = 0

theorem accept_runningInv {s : State} (h : s.Inv) : RunningInv (accept s) :=
  ⟨h.memory, h.cachesOk, resultsOk_of_noResults (accept_noResults s), h.timerIdle⟩

theorem RunningInv.busOnly {s t : State} (h : RunningInv s) (ht : BusOnly s t) : RunningInv t := by
  obtain ⟨env, timer, trace, hmem, htimer⟩ := ht
  exact ⟨hmem h.memory, h.caches, h.results, htimer.elim id fun heq => heq.trans h.timerIdle⟩

/-- No command writes the environment or the settle timer but by bus primitives. -/
theorem OkEffect.env_timer {s u : State} {i : Instr} (h : OkEffect s i u) :
    u.env = s.env ∧ u.settleTimer = s.settleTimer := by
  cases h with
  | setrange sensor => cases sensor <;> exact ⟨rfl, rfl⟩
  | _ => exact ⟨rfl, rfl⟩

theorem OkEffect.runningInv {s u : State} {i : Instr} (h : OkEffect s i u) (hs : RunningInv s) : RunningInv u :=
  have ⟨henv, htimer⟩ := h.env_timer
  ⟨henv ▸ hs.memory, h.cachesOk hs.caches, h.resultsOk hs.results, htimer.trans hs.timerIdle⟩

theorem CutEffect.runningInv {s u : State} {i : Instr} (h : CutEffect s i u) (hs : RunningInv s) : RunningInv u := by
  have hcaches := h.cachesOk hs.caches
  obtain ⟨acc, gyr, l, rfl⟩ := h.frame
  exact ⟨hs.memory, hcaches, hs.results, hs.timerIdle⟩

theorem complete_statusOk {code : Completion} (s : State) : StatusOk (complete code 0 s) :=
  ⟨fun (hcode : code ≠ .ok) => by simp [hcode], fun _ => rfl⟩

theorem abort_statusOk (f : Failure) (s : State) : StatusOk (abort f s) :=
  ⟨fun _ => abort_errs s f, fun h => absurd rfl h⟩

theorem CommandEnd.runningInv {i : Instr} {s t : State} (h : CommandEnd i s t) (hs : s.Inv) : RunningInv t := by
  have hacc := accept_runningInv hs
  cases h with
  | ok hu ht => exact { (hu.runningInv hacc).busOnly ht with }
  | noScale => exact { hacc with }
  | illegal => exact { hacc with }
  | aborted hu ht f => exact { (hu.runningInv hacc).busOnly ht with }
  | hung hu ht => exact (hu.runningInv hacc).busOnly ht

/-- A command that hangs leaves the completion registers as they were (R228). -/
theorem CommandEnd.statusOk {i : Instr} {s t : State} (h : CommandEnd i s t)
    (hs : t.busy = true → StatusOk s) : StatusOk t := by
  cases h with
  | ok | noScale | illegal => exact complete_statusOk _
  | aborted hu ht f => exact abort_statusOk f _
  | hung hu ht =>
    obtain ⟨acc, gyr, l, rfl⟩ := hu.frame
    cases ht
    exact hs rfl

/-- A command that completes keeps the invariants of LSTATE; one that is aborted leaves UNKNOWN (R30, R219). -/
theorem CommandEnd.lifecycleOk {i : Instr} {s t : State} (h : CommandEnd i s t) (hs : LifecycleOk s)
    (hidle : t.busy = false) : LifecycleOk t := by
  cases h with
  | ok hu ht =>
    have hlife := hu.lifecycleOk hs
    cases ht
    exact hlife
  | noScale | illegal => exact hs
  | aborted => exact lifecycleOk_of_not_configured rfl
  | hung hu ht =>
    obtain ⟨acc, gyr, l, rfl⟩ := hu.frame
    cases ht
    cases hidle

theorem illegalCommand_inv {s : State} (hs : s.Inv) (hidle : s.busy = false) : (illegalCommand s).Inv :=
  ⟨hs.memory, hs.accCache, hs.gyrCache, resultsOk_of_noResults (accept_noResults s), complete_statusOk _,
    hs.timerIdle, rfl, nofun, fun _ => hs.lifecycle hidle⟩

theorem exec_keeps_inv {i : Instr} {s t : State} (hs : s.Inv) (hidle : s.busy = false) (h : exec i s = .next t) :
    t.Inv := by
  have hend := commandEnd_of_exec h
  have hrun := hend.runningInv hs
  have htrace := commandTrace_of_exec h
  exact ⟨hrun.memory, hrun.caches .accel, hrun.caches .gyro, hrun.results, hend.statusOk fun _ => hs.status, hrun.timerIdle,
    htrace.traceSettled, htrace.carries, hend.lifecycleOk (hs.lifecycle hidle)⟩

theorem issueWord_keeps_inv {w : Word} {s t : State} (hs : s.Inv) (hidle : s.busy = false)
    (h : issueWord w s = .next t) : t.Inv := by
  unfold issueWord at h
  split at h
  · exact exec_keeps_inv hs hidle h
  · cases h
    exact illegalCommand_inv hs hidle

theorem hostWrite_keeps_inv {index : Nat} {value : Word} {s t : State} (hs : s.Inv)
    (h : hostWrite index value s = .next t) : t.Inv := by
  unfold hostWrite at h
  split at h
  · split at h
    next => cases h
    next hidle => exact issueWord_keeps_inv hs (by simpa using hidle) h
  · cases h
    exact hs

/-- The invariants hold in the reset state, whatever the environment's script and the host's side (R47). -/
theorem reset_inv {env : Env} (hmem : Memory.wf env.sensor = true) (inputs : List HostInput) (hostData : Word) :
    State.Inv { State.reset with env := env, inputs := inputs, hostData := hostData } where
  memory := hmem
  accCache := .inl rfl
  gyrCache := .inl rfl
  results := resultsOk_of_noResults ⟨rfl, rfl, rfl, rfl, rfl⟩
  status := ⟨nofun, fun _ => rfl⟩
  timerIdle := rfl
  settled := rfl
  addressed := nofun
  lifecycle _ := lifecycleOk_of_not_configured rfl

/-- Settles O30: no cache and no result holds a value, and LSTATE is UNKNOWN. -/
theorem resetHasStateInvariants : Obligations.ResetHasStateInvariants :=
  reset_inv reset_memory_wf [] 0

/-- Settles O29: every host input keeps the invariants; a command by the ways it can end (`CommandEnd`). -/
theorem stepKeepsStateInvariants : Obligations.StepKeepsStateInvariants := by
  intro s t hs h
  have hrest (rest : List HostInput) : State.Inv { s with inputs := rest } := hs.hostSide _ rest _
  unfold step hostStep at h
  split at h
  · split at h
    · cases h
    · cases h
      exact hs
  case _ index value rest _ => exact hostWrite_keeps_inv (hrest rest) h
  case _ index rest _ =>
    cases h
    exact hs.hostSide _ rest _
  case _ rest _ =>
    cases h
    exact reset_inv hs.memory rest s.hostData

end Sys2Proof.Machine
end

section
/-! PROOFS. What each command leaves in the registers, and what it leaves unchanged (10_state.md R21 to R40): each statement
by the ways a command can end. -/

namespace Sys2Proof.Machine

/-- A command completes OK with its whole effect, or it hangs or completes with another code and has written, of the
registers acceptance leaves, none but the caches, LSTATE and the completion registers. -/
theorem ok_or_registers_kept {i : Instr} {s t : State} (h : exec i s = .next t) :
    (∃ u env timer trace, OkEffect (accept s) i u ∧ t = { u with
      env := env, settleTimer := timer, trace := trace, cc := .ok, errinfo := 0, busy := false }) ∨
    (t.busy = true ∨ t.cc ≠ .ok) ∧ ∃ env timer trace acc gyr l cc errs info busy, t = { accept s with
      env := env, settleTimer := timer, trace := trace, acc := acc, gyr := gyr, lstate := l
      cc := cc, errs := errs, errinfo := info, busy := busy } := by
  cases commandEnd_of_exec h with
  | ok hu ht =>
    cases ht
    exact .inl ⟨_, _, _, _, hu, complete_ok _⟩
  | noScale | illegal => exact .inr ⟨.inr nofun, _, _, _, _, _, _, _, _, _, _, rfl⟩
  | aborted hu ht f =>
    obtain ⟨_, _, _, rfl⟩ := hu.frame
    cases ht
    exact .inr ⟨.inr nofun, _, _, _, _, _, _, _, _, _, _, rfl⟩
  | hung hu ht =>
    obtain ⟨_, _, _, rfl⟩ := hu.frame
    cases ht
    exact .inr ⟨.inl rfl, _, _, _, _, _, _, _, _, _, _, rfl⟩

/-! ### Registers that few commands write -/

/-- Only BIND writes the configuration and, apart from completion, ERRS (R21, R22, R32). -/
theorem OkEffect.keeps_of_ne_bind {s u : State} {i : Instr} (h : OkEffect s i u)
    (hi : ∀ busaddr reqA reqG, i ≠ .bind busaddr reqA reqG) :
    u.busAddr = s.busAddr ∧ u.reqA = s.reqA ∧ u.reqG = s.reqG ∧ u.errs = s.errs := by
  cases h with
  | bind busaddr reqA reqG => exact absurd rfl (hi busaddr reqA reqG)
  | setrange sensor => cases sensor <;> exact ⟨rfl, rfl, rfl, rfl⟩
  | _ => exact ⟨rfl, rfl, rfl, rfl⟩

/-- Only START, STOP and BIND write RUN (R27). -/
theorem OkEffect.keeps_run {s u : State} {i : Instr} (h : OkEffect s i u) (hstart : i ≠ .start) (hstop : i ≠ .stop)
    (hbind : ∀ busaddr reqA reqG, i ≠ .bind busaddr reqA reqG) : u.run = s.run := by
  cases h with
  | bind busaddr reqA reqG => exact absurd rfl (hbind busaddr reqA reqG)
  | start => exact absurd rfl hstart
  | stop => exact absurd rfl hstop
  | setrange sensor => cases sensor <;> rfl
  | _ => rfl

/-- Settles O14: `complete` and `abort` write the three registers, and of the bodies only BIND's writes ERRS. -/
theorem completionRegisters : Obligations.CompletionRegisters := by
  intro i s t h hidle
  obtain ⟨herrs, hinfo⟩ := (commandEnd_of_exec h).statusOk fun hbusy => by simp [hidle] at hbusy
  refine ⟨herrs, hinfo, fun _ ⟨_, _, _, hi⟩ => ?_, fun hok hi => ?_⟩
  · subst hi
    cases h
    rfl
  · obtain ⟨u, _, _, _, hu, rfl⟩ | ⟨hnot, -⟩ := ok_or_registers_kept h
    · obtain ⟨-, -, -, hkept⟩ := hu.keeps_of_ne_bind hi
      exact hkept
    · simp [hidle, hok] at hnot

/-- Settles O18: only the body of BIND writes them. -/
theorem onlyBindWritesConfiguration : Obligations.OnlyBindWritesConfiguration := by
  intro i s t h hi
  obtain ⟨u, _, _, _, hu, rfl⟩ | ⟨-, _, _, _, _, _, _, _, _, _, _, rfl⟩ := ok_or_registers_kept h
  · obtain ⟨hbus, hreqA, hreqG, -⟩ := hu.keeps_of_ne_bind hi
    exact ⟨hbus, hreqA, hreqG⟩
  · exact ⟨rfl, rfl, rfl⟩

/-- Settles O19: the bodies of START and STOP write RUN last, and BIND always completes. -/
theorem runWriters : Obligations.RunWriters := by
  intro i s t h
  obtain ⟨u, _, _, _, hu, rfl⟩ | ⟨hnot, hkept⟩ := ok_or_registers_kept h
  · refine ⟨?_, ?_, ?_, hu.keeps_run⟩
    · rintro rfl
      cases hu
      rfl
    · rintro rfl
      cases hu
      rfl
    · rintro ⟨_, _, _, rfl⟩
      cases hu
      rfl
  · have hrun : t.run = s.run := by
      obtain ⟨_, _, _, _, _, _, _, _, _, _, rfl⟩ := hkept
      rfl
    have hfailed : ¬ (t.busy = false ∧ t.cc = .ok) := fun ⟨hidle, hok⟩ => hnot.elim (by simp [hidle]) (absurd hok)
    refine ⟨fun _ => by rw [if_neg hfailed, hrun], fun _ => by rw [if_neg hfailed, hrun], ?_, fun _ _ _ => hrun⟩
    rintro ⟨_, _, _, rfl⟩
    cases h
    rfl

/-! ### The result registers -/

/-- Settles O15: acceptance clears the results, and only a body that goes on to its end stores any. -/
theorem resultsOnlyWhenOk : Obligations.ResultsOnlyWhenOk := by
  intro i s t h hcode
  obtain ⟨_, _, _, _, _, rfl⟩ | ⟨-, _, _, _, _, _, _, _, _, _, _, rfl⟩ := ok_or_registers_kept h
  · simp at hcode
  · exact accept_noResults s

/-- Settles O21: acceptance clears the results, and each effect stores in the ones named. -/
theorem resultWriters : Obligations.ResultWriters := by
  intro i s t h
  obtain ⟨_, _, _, _, hu, rfl⟩ | ⟨-, _, _, _, _, _, _, _, _, _, _, rfl⟩ := ok_or_registers_kept h
  · cases hu with
    | rdreg => exact ⟨rfl, rfl, rfl⟩
    | rdtriple | getacc | getgyro => rfl
    | gettemp => exact ⟨rfl, rfl, rfl, rfl, rfl, rfl, rfl, rfl, rfl⟩
    | setrange sensor => cases sensor <;> exact ⟨rfl, rfl, rfl, rfl⟩
    | getrange | probe | chkid => exact ⟨rfl, rfl, rfl, rfl⟩
    | _ => exact accept_noResults s
  · cases i with
    | rdreg => exact ⟨rfl, rfl, rfl⟩
    | rdtriple | getacc | getgyro => rfl
    | gettemp => exact ⟨rfl, rfl, rfl, rfl, rfl, rfl, rfl, rfl, rfl⟩
    | setrange | getrange | probe | chkid => exact ⟨rfl, rfl, rfl, rfl⟩
    | _ => exact accept_noResults s

/-! ### The range caches -/

/-- A raw write to an address that manages no accelerometer register keeps its cache (R124). -/
theorem managedWriteEffects_acc {addr : Byte} (s : State) (hrange : addr ≠ 0x1C) (hpower : addr ≠ 0x6B) :
    (managedWriteEffects addr s).acc = s.acc := if_neg (not_or.2 ⟨hrange, hpower⟩)

/-- A raw write to an address that manages no gyroscope register keeps its cache (R124). -/
theorem managedWriteEffects_gyr {addr : Byte} (s : State) (hrange : addr ≠ 0x1B) (hpower : addr ≠ 0x6B) :
    (managedWriteEffects addr s).gyr = s.gyr := if_neg (not_or.2 ⟨hrange, hpower⟩)

/-- After a command the caches are those of its effect, whole or cut short. -/
theorem caches_of_exec {i : Instr} {s t : State} (h : exec i s = .next t) :
    ∃ u, (OkEffect (accept s) i u ∨ CutEffect (accept s) i u) ∧ t.acc = u.acc ∧ t.gyr = u.gyr := by
  cases commandEnd_of_exec h with
  | ok hu ht =>
    cases ht
    exact ⟨_, .inl hu, rfl, rfl⟩
  | noScale hsel =>
    cases i with
    | rdtriple addr sel => exact ⟨_, .inr (.rdtriple addr sel), rfl, rfl⟩
    | getacc => exact ⟨_, .inr .getacc, rfl, rfl⟩
    | getgyro => exact ⟨_, .inr .getgyro, rfl, rfl⟩
    | _ => cases hsel
  | illegal hi =>
    cases i with
    | rdreg addr count => exact ⟨_, .inr (.rdreg addr count), rfl, rfl⟩
    | _ => cases hi
  | aborted hu ht | hung hu ht =>
    cases ht
    exact ⟨_, .inr hu, rfl, rfl⟩

/-- Settles O20: by the effect of a command that goes on to its end, and of one that is cut short. -/
theorem cacheWriters : Obligations.CacheWriters := by
  intro i s t h
  obtain ⟨u, hu | hu, hacc, hgyr⟩ := caches_of_exec h <;> rw [hacc, hgyr]
  · cases hu with
    | wrreg addr | rmw addr => exact ⟨managedWriteEffects_acc _, managedWriteEffects_gyr _⟩
    | setrange sensor =>
      cases sensor
      · exact ⟨.inr rfl, rfl⟩
      · exact ⟨rfl, .inr rfl⟩
    | init => exact ⟨.inr rfl, .inr rfl⟩
    | _ => exact ⟨rfl, rfl⟩
  · cases hu with
    | wrreg addr | rmw addr => exact ⟨managedWriteEffects_acc _, managedWriteEffects_gyr _⟩
    | setrange sensor =>
      cases sensor
      · exact ⟨.inl rfl, rfl⟩
      · exact ⟨rfl, .inl rfl⟩
    | init c l hc => exact ⟨hc.imp_right fun ⟨_, hc⟩ => hc ▸ rfl, .inl rfl⟩
    | _ => exact ⟨rfl, rfl⟩

/-! ### Results are not read -/

/-- Settles O27: acceptance overwrites the results before anything is read. -/
theorem resultsFeedNothing : Obligations.ResultsFeedNothing := by
  intro i s rbuf rlen raw out res
  have haccept : accept { s with rbuf := rbuf, rlen := rlen, raw := raw, out := out, res := res } = accept s := rfl
  cases hi : i.wellFormed
  · rw [exec_of_not_wellFormed hi, exec_of_not_wellFormed hi, illegalCommand, haccept, illegalCommand]
  · rw [exec_of_wellFormed hi, exec_of_wellFormed hi, runCommand, haccept, runCommand]

end Sys2Proof.Machine
end
section
/-! PROOFS. The step of a block whose host resets it, or reads or writes a register but CMD (10_state.md R35, R47;
70_reset_and_hazards.md R240, R243). -/

namespace Sys2Proof.Machine

theorem step_of_blockReset {s : State} {rest : List HostInput} (h : s.inputs = .blockReset :: rest) :
    step s = .next (blockReset { s with inputs := rest }) := by
  simp [step, hostStep, h]

theorem step_of_read {s : State} {index : Nat} {rest : List HostInput} (h : s.inputs = .read index :: rest) :
    step s = .next (hostRead index { s with inputs := rest }) := by
  simp [step, hostStep, h]

theorem step_of_write_other {s : State} {index : Nat} {value : Word} {rest : List HostInput} (hindex : index ≠ 0)
    (h : s.inputs = .write index value :: rest) : step s = .next { s with inputs := rest } := by
  simp [step, hostStep, h, hostWrite, cmdIndex, hindex]

theorem step_of_no_input {s : State} (h : s.inputs = []) (hidle : s.busy = false) : step s = .next s := by
  simp [step, hostStep, h, hidle]

/-- Settles O11: block reset takes every register from the reset state. -/
theorem resetRegisterValues : Obligations.ResetRegisterValues := by
  unfold Obligations.ResetRegisterValues
  intro values
  have hvalues (env : Env) (inputs : List HostInput) (hostData : Word) :
      values { State.reset with env := env, inputs := inputs, hostData := hostData } := by
    simp [values, State.reset, RangeCache.empty, NoResults]
  exact ⟨hvalues Env.start [] 0, fun s rest h => ⟨_, step_of_blockReset h, hvalues _ _ _, rfl, rfl⟩⟩

/-- Settles O4: the block's step by its next host input; the index of an allowed read is one of `hostReadBits_allowed`. -/
theorem hostAccessLeavesRegisters : Obligations.HostAccessLeavesRegisters := by
  intro s
  refine ⟨step_of_no_input, fun _ _ _ => step_of_write_other, fun index rest h =>
    ⟨Config.unspecifiedBits s.env.drawn, _, step_of_read h, fun hallowed => hostReadBits_allowed _ ?_⟩⟩
  obtain hidle | rfl | rfl := hallowed
  · exact .inl hidle
  · exact .inr readsWhenIdle_cmd
  · exact .inr readsWhenIdle_status

end Sys2Proof.Machine
end

section
/-! PROOFS. The transactions of a command, counted, and the one that failed (10_state.md R34, 60_exceptions.md R214, R219). -/

namespace Sys2Proof.Machine

/-- A command is in progress and has made at most `n` transactions. -/
def MadeAtMost (n : Nat) (s : State) : Prop := s.busy = true ∧ transactions s.trace ≤ n

/-- Wherever the flow stands it has made at most `n` transactions; if one failed, it is the last event and the failure
names it; if one never returned, the command is still in progress. -/
def Flow.MakesAtMost {α : Type} (n : Nat) (r : Flow α) : Prop :=
  r.Sat (fun _ => MadeAtMost n) (fun _ => True)
    (fun f t => NamesFailure t.trace (errinfoWord f.step f.dir f.addr f.kind) ∧ transactions t.trace ≤ n)
    (fun t => t.busy = true)

theorem Flow.MakesAtMost.andThen {α β : Type} {m n : Nat} {r : Flow α} {next : α → State → Flow β}
    (hr : r.MakesAtMost m) (hnext : ∀ a s, MadeAtMost m s → (next a s).MakesAtMost n) (hle : m ≤ n := by omega) :
    (r.andThen next).MakesAtMost n :=
  Flow.Sat.andThen (Flow.Sat.imp hr (fun _ _ h => h) (fun _ h => h) (fun _ _ h => ⟨h.1, h.2.trans hle⟩) fun _ h => h)
    hnext

/-- What follows may make no transaction. -/
theorem Flow.MakesAtMost.last {α β : Type} {n : Nat} {r : Flow α} {next : α → State → Flow β}
    (hr : r.MakesAtMost n) (hnext : ∀ a s, MadeAtMost n s → (next a s).MakesAtMost n) :
    (r.andThen next).MakesAtMost n := hr.andThen hnext

section Operations
variable {n : Nat} {s : State}

theorem memRead_makesAtMost (h : MadeAtMost n s) (addr : Byte) (count : Nat) :
    (memRead addr count s).MakesAtMost (n + 1) := by
  obtain ⟨hbusy, hn⟩ := h
  have hcount (r : ReadResult) : transactions (s.trace ++ [.read s.busAddr addr count r]) ≤ n + 1 := by
    simpa [BusEvent.isTransaction, transactions] using hn
  exact memRead_sat (fun _ _ _ => ⟨hbusy, hcount _⟩)
    (fun _ kind _ => ⟨⟨s.trace, s.busAddr, addr, kind, .inl ⟨count, rfl, rfl⟩⟩, hcount _⟩) fun _ _ => hbusy

theorem memWrite_makesAtMost (h : MadeAtMost n s) (addr v : Byte) : (memWrite addr v s).MakesAtMost (n + 1) := by
  obtain ⟨hbusy, hn⟩ := h
  have hcount (r : WriteResult) : transactions (s.trace ++ [.write s.busAddr addr v r]) ≤ n + 1 := by
    simpa [BusEvent.isTransaction, transactions] using hn
  exact memWrite_sat (fun _ _ => ⟨hbusy, by simpa [BusEvent.isTransaction, transactions, List.countP_cons] using hn⟩)
    (fun _ kind _ => ⟨⟨s.trace, s.busAddr, addr, kind, .inr ⟨v, rfl, rfl⟩⟩, hcount _⟩) fun _ _ _ => hbusy

theorem rmw_makesAtMost (h : MadeAtMost n s) (addr mask bits : Byte) : (rmw addr mask bits s).MakesAtMost (n + 2) :=
  (memRead_makesAtMost h addr 1).andThen fun _ _ h1 => memWrite_makesAtMost h1 addr _

theorem getRangeOp_makesAtMost (h : MadeAtMost n s) (sensor : Sensor) : (getRangeOp sensor s).MakesAtMost (n + 1) :=
  (memRead_makesAtMost h _ 1).last fun _ _ h1 => h1

theorem setRangeOp_makesAtMost (h : MadeAtMost n s) (sensor : Sensor) (r : RangeEnum) :
    (setRangeOp sensor r s).MakesAtMost (n + 3) := by
  have hdrop : MadeAtMost n (dropCache sensor s) := by simpa [MadeAtMost] using h
  refine (rmw_makesAtMost hdrop _ _ _).andThen fun _ _ h1 => (getRangeOp_makesAtMost h1 sensor).andThen fun e t h2 => ?_
  simpa [Flow.MakesAtMost, Flow.Sat, MadeAtMost] using h2

theorem resetBody_makesAtMost (h : MadeAtMost n s) : (resetBody s).MakesAtMost (n + 2) :=
  (rmw_makesAtMost (s := dropCaches s) h _ _ _).last fun _ _ h1 => h1

theorem wakeBody_makesAtMost (h : MadeAtMost n s) : (wakeBody s).MakesAtMost (n + 1) :=
  (memWrite_makesAtMost h _ _).last fun _ _ h1 => h1

theorem initBody_makesAtMost (h : MadeAtMost n s) : (initBody s).MakesAtMost (n + 9) :=
  (resetBody_makesAtMost h).andThen fun _ _ h1 => (wakeBody_makesAtMost h1).andThen fun _ _ h2 =>
    (setRangeOp_makesAtMost h2 .accel _).andThen fun _ _ h3 => (setRangeOp_makesAtMost h3 .gyro _).last fun _ _ h4 => h4

theorem readTriple_makesAtMost (h : MadeAtMost n s) (addr : Byte) (sel : ScaleSel) :
    (readTriple addr sel s).MakesAtMost (n + 1) :=
  Flow.MakesAtMost.andThen (m := n) (needScale_sat (fun _ _ => h) fun _ => trivial) fun _ _ h1 =>
    (memRead_makesAtMost h1 addr 6).last fun _ _ h2 => h2

theorem busScan_makesAtMost (h : MadeAtMost n s) : (busScan s).MakesAtMost n :=
  busScan_sat fun _ _ _ _ => ⟨h.1, by simpa [BusEvent.isTransaction, transactions] using h.2⟩

end Operations

/-- The body of a command makes at most as many transactions as there are STEP values it can report (R214). -/
theorem commandBody_makesAtMost {s : State} (h : MadeAtMost 0 s) (i : Instr) :
    (commandBody i s).MakesAtMost (busErrorSteps i) := by
  cases i with
  | bind => exact h
  | wrreg addr byte => exact memWrite_makesAtMost (s := managedWriteEffects addr s) h addr byte
  | rmw addr mask bits => exact rmw_makesAtMost (s := managedWriteEffects addr s) h addr mask bits
  | reset => exact resetBody_makesAtMost h
  | wake => exact wakeBody_makesAtMost h
  | setrange sensor r => exact (setRangeOp_makesAtMost h sensor r).last fun _ _ h1 => h1
  | getrange sensor => exact (getRangeOp_makesAtMost h sensor).last fun _ _ h1 => h1
  | init => exact initBody_makesAtMost h
  | start | stop => exact (rmw_makesAtMost h _ _ _).last fun _ _ h1 => h1
  | probe => exact busScan_makesAtMost h
  | rdtriple | getacc | getgyro => exact readTriple_makesAtMost h _ _
  | rdreg | chkid | gettemp => exact (memRead_makesAtMost h _ _).last fun _ _ h1 => h1

/-- The end of a command by BUS_ERROR (R219): `abort` follows a failed transaction, and names it. -/
theorem finish_names_failure {n : Nat} {r : Flow Unit} (h : r.MakesAtMost n) (hidle : (finish r).busy = false)
    (hcode : (finish r).cc = .busError) :
    (finish r).lstate = .unknown ∧ (finish r).errs = true ∧ NamesFailure (finish r).trace (finish r).errinfo ∧
      transactions (finish r).trace ≤ n := by
  cases r with
  | go | noScale => cases hcode
  | busError f s => exact ⟨rfl, abort_errs s f, h⟩
  | hung s => exact absurd (h.symm.trans hidle) (by decide)

/-- Settles O16: a command ends by `finish`; an illegal one makes no transaction and does not end BUS_ERROR. -/
theorem abortNamesFailedTransaction : Obligations.AbortNamesFailedTransaction := by
  intro i s t h
  cases hi : i.wellFormed with
  | false =>
    cases h.symm.trans (exec_of_not_wellFormed hi s)
    exact nofun
  | true =>
    cases h.symm.trans (exec_of_wellFormed hi s)
    exact finish_names_failure (commandBody_makesAtMost ⟨accept_busy s, Nat.le_refl 0⟩ i)

end Sys2Proof.Machine
end

section
/-! PROOFS. RUN and LSTATE guard nothing (10_state.md R27, R29): a command begun in two states that differ in these alone
makes the same transactions, and its two runs stay so. -/

namespace Sys2Proof.Machine

/-- The two flows stand alike, in states that differ at most in RUN and LSTATE. -/
inductive Flow.Alike {α : Type} : Flow α → Flow α → Prop
  | go (a : α) (s : State) (run : Bool) (l : LState) : Alike (.go a s) (.go a { s with run := run, lstate := l })
  | noScale (s : State) (run : Bool) (l : LState) : Alike (.noScale s) (.noScale { s with run := run, lstate := l })
  | busError (f : Failure) (s : State) (run : Bool) (l : LState) :
      Alike (.busError f s) (.busError f { s with run := run, lstate := l })
  | hung (s : State) (run : Bool) (l : LState) : Alike (.hung s) (.hung { s with run := run, lstate := l })

/-- An operation that RUN and LSTATE do not guard. -/
def Unguarded {α : Type} (op : State → Flow α) : Prop :=
  ∀ s run l, (op s).Alike (op { s with run := run, lstate := l })

theorem Flow.Alike.andThen {α β : Type} {r r' : Flow α} {next : α → State → Flow β} (h : r.Alike r')
    (hnext : ∀ a, Unguarded (next a)) : (r.andThen next).Alike (r'.andThen next) := by
  cases h with
  | go a s run l => exact hnext a s run l
  | noScale s run l => exact .noScale s run l
  | busError f s run l => exact .busError f s run l
  | hung s run l => exact .hung s run l

theorem Unguarded.andThen {α β : Type} {op : State → Flow α} {next : α → State → Flow β} (hop : Unguarded op)
    (hnext : ∀ a, Unguarded (next a)) : Unguarded fun s => (op s).andThen next :=
  fun s run l => (hop s run l).andThen hnext

/-- An update made before an unguarded operation, which changes neither what it writes by RUN and LSTATE. -/
theorem Unguarded.after {α : Type} {op : State → Flow α} (hop : Unguarded op) {f : State → State}
    (hf : ∀ s run l, ∃ run' l', f { s with run := run, lstate := l } = { f s with run := run', lstate := l' }) :
    Unguarded fun s => op (f s) := by
  intro s run l
  obtain ⟨run', l', heq⟩ := hf s run l
  simpa only [heq] using hop (f s) run' l'

theorem unguarded_go {α : Type} (a : α) : Unguarded (Flow.go a) := fun s run l => .go a s run l

theorem memRead_unguarded (addr : Byte) (n : Nat) : Unguarded (memRead addr n) := by
  intro s run l
  unfold memRead
  rcases nextReply s.env with ⟨_ | _ | _, env⟩
  · exact .go _ _ run l
  · exact .busError _ _ run l
  · exact .hung _ run l

theorem memWrite_unguarded (addr v : Byte) : Unguarded (memWrite addr v) := by
  intro s run l
  unfold memWrite
  rcases nextReply s.env with ⟨_ | _ | _, env⟩
  · exact .go _ _ run l
  · exact .busError _ _ run l
  · exact .hung _ run l

theorem needScale_unguarded (sel : ScaleSel) : Unguarded (needScale sel) := by
  intro s run l
  have hscale : scaleOf { s with run := run, lstate := l } sel = scaleOf s sel := scaleOf_congr sel rfl rfl
  unfold needScale
  rw [hscale]
  cases scaleOf s sel
  · exact .noScale s run l
  · exact .go _ s run l

theorem rmw_unguarded (addr mask bits : Byte) : Unguarded (rmw addr mask bits) :=
  (memRead_unguarded addr 1).andThen fun _ => memWrite_unguarded addr _

theorem getRangeOp_unguarded (sensor : Sensor) : Unguarded (getRangeOp sensor) :=
  (memRead_unguarded _ 1).andThen fun _ => unguarded_go _

theorem setRangeOp_unguarded (sensor : Sensor) (r : RangeEnum) : Unguarded (setRangeOp sensor r) := by
  have hrmw := (rmw_unguarded (cfgAddr sensor) rangeMask (rangeBits r)).after (f := dropCache sensor) fun _ run l =>
    ⟨run, l, by cases sensor <;> rfl⟩
  refine hrmw.andThen fun _ => (getRangeOp_unguarded sensor).andThen fun e => ?_
  refine (unguarded_go e).after (f := storeReadBack sensor r e) fun s run l => ?_
  cases sensor <;> exact ⟨run, _, rfl⟩

theorem resetBody_unguarded : Unguarded resetBody :=
  ((rmw_unguarded _ _ _).after (f := dropCaches) fun _ run l => ⟨run, l, rfl⟩).andThen fun _ =>
    (unguarded_go ()).after fun _ run _ => ⟨run, _, rfl⟩

theorem wakeBody_unguarded : Unguarded wakeBody :=
  (memWrite_unguarded _ _).andThen fun _ => (unguarded_go ()).after fun _ run _ => ⟨run, _, rfl⟩

/-- The ranges INIT asks for are no part of RUN and LSTATE (R152). -/
theorem initBody_unguarded : Unguarded initBody :=
  resetBody_unguarded.andThen fun _ => wakeBody_unguarded.andThen fun _ =>
    Unguarded.andThen (fun s => setRangeOp_unguarded .accel s.reqA s) fun _ =>
      Unguarded.andThen (fun s => setRangeOp_unguarded .gyro s.reqG s) fun _ => unguarded_go ()

theorem readTriple_unguarded (addr : Byte) (sel : ScaleSel) : Unguarded (readTriple addr sel) :=
  (needScale_unguarded sel).andThen fun d => (memRead_unguarded addr 6).andThen fun b =>
    (unguarded_go ()).after (f := storeTriple d b) fun _ run l => ⟨run, l, rfl⟩

/-- A raw write to a managed register makes LSTATE UNKNOWN, and any other keeps it (R124). -/
theorem managedWriteEffects_alike (addr : Byte) (s : State) (run : Bool) (l : LState) : ∃ run' l',
    managedWriteEffects addr { s with run := run, lstate := l } =
      { managedWriteEffects addr s with run := run', lstate := l' } := ⟨run, _, rfl⟩

theorem commandBody_unguarded (i : Instr) : Unguarded (commandBody i) := by
  cases i with
  | bind => exact fun _ _ _ => .go () _ false .unknown
  | wrreg addr byte => exact (memWrite_unguarded addr byte).after (managedWriteEffects_alike addr)
  | rdreg addr count =>
    exact (memRead_unguarded addr _).andThen fun b => (unguarded_go ()).after fun _ run l => ⟨run, l, rfl⟩
  | rmw addr mask bits => exact (rmw_unguarded addr mask bits).after (managedWriteEffects_alike addr)
  | reset => exact resetBody_unguarded
  | wake => exact wakeBody_unguarded
  | setrange sensor r =>
    exact (setRangeOp_unguarded sensor r).andThen fun _ => (unguarded_go ()).after fun _ run l => ⟨run, l, rfl⟩
  | getrange sensor =>
    exact (getRangeOp_unguarded sensor).andThen fun _ => (unguarded_go ()).after fun _ run l => ⟨run, l, rfl⟩
  | init => exact initBody_unguarded
  | start | stop =>
    exact (rmw_unguarded _ _ _).andThen fun _ => (unguarded_go ()).after fun _ _ _ => ⟨_, _, rfl⟩
  | probe => exact fun _ run l => .go () _ run l
  | rdtriple | getacc | getgyro => exact readTriple_unguarded _ _
  | chkid | gettemp =>
    exact (memRead_unguarded _ _).andThen fun _ => (unguarded_go ()).after fun _ run l => ⟨run, l, rfl⟩

/-- Two commands that end alike leave states that differ at most in RUN and LSTATE. -/
theorem Flow.Alike.finish {r r' : Flow Unit} (h : r.Alike r') :
    ∃ run l, finish r' = { finish r with run := run, lstate := l } := by
  cases h <;> exact ⟨_, _, rfl⟩

/-- Settles O28: acceptance keeps RUN and LSTATE, and no body is guarded by them. -/
theorem runAndLstateGuardNothing : Obligations.RunAndLstateGuardNothing := by
  intro i s t run l h
  cases hi : i.wellFormed with
  | false =>
    cases h.symm.trans (exec_of_not_wellFormed hi s)
    exact ⟨run, l, exec_of_not_wellFormed hi _⟩
  | true =>
    cases h.symm.trans (exec_of_wellFormed hi s)
    obtain ⟨run', l', heq⟩ := (commandBody_unguarded i (accept s) run l).finish
    exact ⟨run', l', (exec_of_wellFormed hi _).trans (congrArg Host.Outcome.next heq)⟩

end Sys2Proof.Machine
end

section
/-! PROOFS. The host register map (10_state.md R35): where each field stands in the word a host read returns. -/

namespace Sys2Proof.Machine

@[simp] theorem getElem_bit (b : Bool) : (bit b)[0] = b := by cases b <;> rfl

theorem shown_some {w : Nat} (b : BitVec w) (u : Word) : shown (some b) u = b := rfl

/-- The bits from the width of a layout on are 0, whether zeros stand in front of it or not (log 11). -/
theorem extractLsb'_above_layout {n k m len : Nat} (x : BitVec n) :
    ((0#k ++ x).setWidth m).extractLsb' n len = 0 := by
  ext i hi
  simp [BitVec.getLsbD_append]

/-! ### STATUS -/

theorem statusWord_flags (s : State) :
    (statusWord s).getLsbD 0 = s.busy ∧ (statusWord s).getLsbD 1 = s.run ∧ (statusWord s).getLsbD 2 = s.errs ∧
      (statusWord s).getLsbD 3 = s.acc.valid ∧ (statusWord s).getLsbD 4 = s.gyr.valid ∧
      (statusWord s).getLsbD 5 = s.acc.mism ∧ (statusWord s).getLsbD 6 = s.gyr.mism ∧
      (statusWord s).getLsbD 7 = false ∧ (statusWord s).getLsbD 11 = false := by
  unfold statusWord
  simp only [BitVec.getLsbD_append]
  simp

theorem statusWord_lstate (s : State) : (statusWord s).extractLsb' 8 3 = lstateCode s.lstate := by
  unfold statusWord
  iterate 3 rw [BitVec.extractLsb'_append_eq_of_add_le (by decide)]
  exact BitVec.extractLsb'_append_eq_left

theorem statusWord_cc (s : State) : (statusWord s).extractLsb' 12 3 = completionCode s.cc := by
  unfold statusWord
  rw [BitVec.extractLsb'_append_eq_of_add_le (by decide)]
  exact BitVec.extractLsb'_append_eq_left

/-! ### CFG and RANGE -/

theorem cfgWord_busAddr (s : State) : (cfgWord s).extractLsb' 0 7 = s.busAddr := by
  unfold cfgWord
  iterate 3 rw [BitVec.extractLsb'_append_eq_of_add_le (by decide)]
  exact BitVec.extractLsb'_append_eq_right

theorem cfgWord_bit7 (s : State) : (cfgWord s).getLsbD 7 = false := by
  unfold cfgWord
  simp only [BitVec.getLsbD_append]
  simp

theorem cfgWord_reqA (s : State) : (cfgWord s).extractLsb' 8 2 = s.reqA := by
  unfold cfgWord
  iterate 2 rw [BitVec.extractLsb'_append_eq_of_add_le (by decide)]
  exact BitVec.extractLsb'_append_eq_left

theorem cfgWord_reqG (s : State) : (cfgWord s).extractLsb' 10 2 = s.reqG := by
  unfold cfgWord
  rw [BitVec.extractLsb'_append_eq_of_add_le (by decide)]
  exact BitVec.extractLsb'_append_eq_left

theorem rangeWord_acc (s : State) (u : Word) : (rangeWord s u).extractLsb' 0 2 = shown s.acc.range u := by
  unfold rangeWord
  rw [BitVec.extractLsb'_append_eq_of_add_le (by decide)]
  exact BitVec.extractLsb'_append_eq_right

theorem rangeWord_gyr (s : State) (u : Word) : (rangeWord s u).extractLsb' 2 2 = shown s.gyr.range (u >>> 2) := by
  unfold rangeWord
  rw [BitVec.extractLsb'_append_eq_of_add_le (by decide)]
  exact BitVec.extractLsb'_append_eq_left

/-! ### The registers of several words, and the indices that have none -/

theorem hostWord_rbuf (s : State) (u : Word) (i : Fin 6) :
    hostWord s u (0x10 + i.val) = (shown s.rbuf[i] u).setWidth 32 := by
  fin_cases i <;> rfl

theorem hostWord_raw (s : State) (u : Word) (i : Fin 3) :
    hostWord s u (0x18 + i.val) = (shown s.raw[i] u).setWidth 32 := by
  fin_cases i <;> rfl

theorem hostWord_out (s : State) (u : Word) (i : Fin 3) : hostWord s u (0x1C + i.val) = shown s.out[i] u := by
  fin_cases i <;> rfl

theorem hostWord_unmapped (s : State) (u : Word) (index : Nat)
    (h : (0x09 ≤ index ∧ index ≤ 0x0F) ∨ index = 0x16 ∨ index = 0x17 ∨ index = 0x1B ∨ 0x1F ≤ index) :
    hostWord s u index = 0 := by
  obtain ⟨hlow, hhigh⟩ | rfl | rfl | rfl | habove := h
  · interval_cases index <;> rfl
  · rfl
  · rfl
  · rfl
  · obtain ⟨k, rfl⟩ := Nat.exists_eq_add_of_le' habove
    rfl

/-- Settles O5: each index shows its packed word or its register, widened to 32 bits. -/
theorem hostRegisterMap : Obligations.HostRegisterMap := by
  intro s u
  refine ⟨?status, ?cfg, ?accRange, ?gyrRange, extractLsb'_above_layout (k := 4) _, ?accScale, ?gyrScale, rfl, ?res,
    rfl, ?rbuf, ?raw, ?out, rfl, hostWord_unmapped s u⟩
  case status =>
    have hbit (i : Nat) (hi : i < 32) : (hostWord s u 0x01).getLsbD i = (statusWord s).getLsbD i := by
      simp [hostWord, hi]
    simp only [hbit, Nat.reduceLT]
    obtain ⟨hbusy, hrun, herrs, havalid, hgvalid, hamism, hgmism, h7, h11⟩ := statusWord_flags s
    exact ⟨hbusy, hrun, herrs, havalid, hgvalid, hamism, hgmism, h7,
      (BitVec.extractLsb'_setWidth_of_le (by decide)).trans (statusWord_lstate s), h11, (BitVec.extractLsb'_setWidth_of_le (by decide)).trans (statusWord_cc s),
      extractLsb'_above_layout (k := 1) _⟩
  case cfg =>
    have h7 : (hostWord s u 0x02).getLsbD 7 = (cfgWord s).getLsbD 7 := by simp [hostWord]
    exact ⟨(BitVec.extractLsb'_setWidth_of_le (by decide)).trans (cfgWord_busAddr s), h7.trans (cfgWord_bit7 s),
      (BitVec.extractLsb'_setWidth_of_le (by decide)).trans (cfgWord_reqA s), (BitVec.extractLsb'_setWidth_of_le (by decide)).trans (cfgWord_reqG s),
      extractLsb'_above_layout (k := 4) _⟩
  case accRange =>
    intro a ha
    exact (BitVec.extractLsb'_setWidth_of_le (by decide)).trans ((rangeWord_acc s u).trans (by rw [ha, shown_some]))
  case gyrRange =>
    intro g hg
    exact (BitVec.extractLsb'_setWidth_of_le (by decide)).trans ((rangeWord_gyr s u).trans (by rw [hg, shown_some]))
  case accScale =>
    intro d hd
    simp [hostWord, hd, shown_some]
  case gyrScale =>
    intro d hd
    simp [hostWord, hd, shown_some]
  case res =>
    intro b hb
    simp [hostWord, hb, shown_some]
  case rbuf =>
    intro i b hb
    rw [hostWord_rbuf, hb, shown_some]
  case raw =>
    intro i x hx
    rw [hostWord_raw, hx, shown_some]
  case out =>
    intro i q hq
    rw [hostWord_out, hq, shown_some]

end Sys2Proof.Machine
end

section
/-! PROOFS. The sensor's register space after a command (20_memory.md R60, R84, R85): what a command leaves
unchanged, and what a reference device stores and returns. -/

namespace Sys2Proof.Machine

/-! ### What a command leaves unchanged outside the registers -/

/-- What is no register of the host view: the environment, the settle timer and the host's side. -/
def State.surroundings (s : State) : Env × Nat × List HostInput × Word :=
  (s.env, s.settleTimer, s.inputs, s.hostData)

/-- The second state differs from the first, outside the registers, at most in what writes to the addresses `W`, reads
and scans change. -/
structure PortFrame (W : Byte → Prop) (s t : State) : Prop where
  memory : ∀ a : Byte, ¬ W a → memByte t.env.sensor a.toNat = memByte s.env.sensor a.toNat
  device : t.env.device = s.env.device
  inputs : t.inputs = s.inputs
  hostData : t.hostData = s.hostData
  timer : t.settleTimer = 0 ∨ t.settleTimer = s.settleTimer
  noWrite : (∀ a, ¬ W a) → t.settleTimer = s.settleTimer ∧ t.env.sensor = s.env.sensor

section Framed
variable {W : Byte → Prop} {s t u : State}

theorem PortFrame.congr (h : PortFrame W s t) (hu : u.surroundings = t.surroundings) : PortFrame W s u := by
  simp only [State.surroundings, Prod.mk.injEq] at hu
  obtain ⟨henv, htimer, hinputs, hhost⟩ := hu
  constructor <;> simp only [henv, htimer, hinputs, hhost]
  exacts [h.memory, h.device, h.inputs, h.hostData, h.timer, h.noWrite]

theorem PortFrame.refl (W : Byte → Prop) {s t : State} (h : t.surroundings = s.surroundings) : PortFrame W s t :=
  PortFrame.congr ⟨fun _ _ => rfl, rfl, rfl, rfl, .inr rfl, fun _ => ⟨rfl, rfl⟩⟩ h

/-- A draw from the environment's script, or of a free value, leaves the device. -/
theorem PortFrame.draw (h : PortFrame W s t) {env : Env} (hdevice : env.device = t.env.device)
    (hsensor : env.sensor = t.env.sensor) (e : BusEvent) : PortFrame W s ({ t with env := env }.record e) where
  memory a ha := by simpa [hsensor] using h.memory a ha
  device := hdevice.trans h.device
  inputs := h.inputs
  hostData := h.hostData
  timer := h.timer
  noWrite hW := ⟨(h.noWrite hW).1, hsensor.trans (h.noWrite hW).2⟩

/-- A change of the device at one address the command may write, with the timer idle again or as it was. -/
theorem PortFrame.store {env : Env} {addr : Byte} (h : PortFrame W s t) (hW : W addr) {timer : Nat}
    (hdevice : env.device = t.env.device)
    (hother : ∀ a, a ≠ addr.toNat → memByte env.sensor a = memByte t.env.sensor a)
    (htimer : timer = 0 ∨ timer = t.settleTimer) (trace : List BusEvent) :
    PortFrame W s { t with env := env, settleTimer := timer, trace := trace } where
  memory a ha := by
    have hne : a ≠ addr := fun heq => ha (heq ▸ hW)
    exact (hother _ fun heq => hne (BitVec.eq_of_toNat_eq heq)).trans (h.memory a ha)
  device := hdevice.trans h.device
  inputs := h.inputs
  hostData := h.hostData
  timer := htimer.elim .inl fun heq => h.timer.imp heq.trans heq.trans
  noWrite hno := absurd hW (hno addr)

/-- Wherever the flow stands, its state is framed. -/
def Flow.Framed {α : Type} (W : Byte → Prop) (s : State) (r : Flow α) : Prop :=
  r.Sat (fun _ => PortFrame W s) (PortFrame W s) (fun _ => PortFrame W s) (PortFrame W s)

theorem Flow.Framed.andThen {α β : Type} {r : Flow α} {next : α → State → Flow β} (hr : r.Framed W s)
    (hnext : ∀ a t, PortFrame W s t → (next a t).Framed W s) : (r.andThen next).Framed W s :=
  Flow.Sat.andThen hr hnext

/-- What follows writes registers only. -/
theorem Flow.Framed.thenGo {α β : Type} {r : Flow α} {value : α → State → β} {update : α → State → State}
    (hr : r.Framed W s) (hupdate : ∀ a t, (update a t).surroundings = t.surroundings) :
    (r.andThen fun a t => .go (value a t) (update a t)).Framed W s :=
  hr.andThen fun a t ht => ht.congr (hupdate a t)

theorem memRead_framed (h : PortFrame W s t) (addr : Byte) (n : Nat) : (memRead addr n t).Framed W s :=
  memRead_sat (fun _ _ he => h.draw (by simp [he]) (by simp [he]) _)
    (fun _ _ he => h.draw (by simp [he]) (by simp [he]) _) fun _ he => h.draw (by simp [he]) (by simp [he]) _

theorem busScan_framed (h : PortFrame W s t) : (busScan t).Framed W s :=
  busScan_sat fun _ _ he _ => h.draw (by simp [he]) (by simp [he]) _

theorem memWrite_framed (h : PortFrame W s t) {addr : Byte} (hW : W addr) (v : Byte) :
    (memWrite addr v t).Framed W s :=
  memWrite_sat
    (fun env he => h.store (env := deviceWrite env addr v) hW (by simp [he])
      (fun a ha => by simpa [he] using deviceWrite_other env addr v ha) (.inl rfl) _)
    (fun _ _ he => h.draw (by simp [he]) (by simp [he]) _)
    fun env landed he => h.store (env := deviceCutWrite landed env addr v) hW (by simp [he])
      (fun a ha => by simpa [he] using deviceCutWrite_other landed env addr v ha) (.inr rfl) _

theorem rmw_framed (h : PortFrame W s t) {addr : Byte} (hW : W addr) (mask bits : Byte) :
    (rmw addr mask bits t).Framed W s :=
  (memRead_framed h addr 1).andThen fun _ _ h1 => memWrite_framed h1 hW _

theorem getRangeOp_framed (h : PortFrame W s t) (sensor : Sensor) : (getRangeOp sensor t).Framed W s :=
  (memRead_framed h _ 1).thenGo fun _ _ => rfl

theorem setRangeOp_framed (h : PortFrame W s t) {sensor : Sensor} (hW : W (cfgAddr sensor)) (r : RangeEnum) :
    (setRangeOp sensor r t).Framed W s :=
  (rmw_framed (h.congr (u := dropCache sensor t) (by cases sensor <;> rfl)) hW _ _).andThen fun _ _ h1 =>
    (getRangeOp_framed h1 sensor).thenGo fun _ _ => by cases sensor <;> rfl

theorem resetBody_framed (h : PortFrame W s t) (hW : W 0x6B) : (resetBody t).Framed W s :=
  (rmw_framed (t := dropCaches t) (h.congr rfl) hW _ _).thenGo fun _ _ => rfl

theorem wakeBody_framed (h : PortFrame W s t) (hW : W 0x6B) : (wakeBody t).Framed W s :=
  (memWrite_framed h hW _).thenGo fun _ _ => rfl

theorem initBody_framed (h : PortFrame W s t) (hpower : W 0x6B) (haccel : W 0x1C) (hgyro : W 0x1B) :
    (initBody t).Framed W s :=
  (resetBody_framed h hpower).andThen fun _ _ h1 => (wakeBody_framed h1 hpower).andThen fun _ _ h2 =>
    (setRangeOp_framed (sensor := .accel) h2 haccel _).andThen fun _ _ h3 =>
      (setRangeOp_framed (sensor := .gyro) h3 hgyro _).thenGo fun _ _ => rfl

theorem readTriple_framed (h : PortFrame W s t) (addr : Byte) (sel : ScaleSel) : (readTriple addr sel t).Framed W s :=
  Flow.Framed.andThen (needScale_sat (fun _ _ => h) fun _ => h) fun _ _ h1 =>
    (memRead_framed h1 addr 6).thenGo fun _ _ => rfl

end Framed

/-- The body of a command stores only where the command may write. -/
theorem commandBody_framed {s t : State} {i : Instr} (h : PortFrame (writesAddr i) s t) :
    (commandBody i t).Framed (writesAddr i) s := by
  cases i with
  | bind => exact h.congr rfl
  | wrreg addr byte => exact memWrite_framed (t := managedWriteEffects addr t) (h.congr rfl) rfl byte
  | rmw addr mask bits => exact rmw_framed (t := managedWriteEffects addr t) (h.congr rfl) rfl mask bits
  | reset => exact resetBody_framed h rfl
  | wake => exact wakeBody_framed h rfl
  | start | stop => exact (rmw_framed h rfl _ _).thenGo fun _ _ => rfl
  | setrange sensor r => exact (setRangeOp_framed h rfl r).thenGo fun _ _ => rfl
  | init => exact initBody_framed h (.inl rfl) (.inr (.inl rfl)) (.inr (.inr rfl))
  | getrange sensor => exact (getRangeOp_framed h sensor).thenGo fun _ _ => rfl
  | probe => exact PortFrame.congr (busScan_framed h) rfl
  | rdtriple | getacc | getgyro => exact readTriple_framed h _ _
  | rdreg | chkid | gettemp => exact (memRead_framed h _ _).thenGo fun _ _ => rfl

/-- Acceptance, completion and abort write registers and the trace only (R91, R210, R219). -/
theorem exec_framed {i : Instr} {s t : State} (h : exec i s = .next t) : PortFrame (writesAddr i) s t := by
  cases hi : i.wellFormed with
  | false =>
    cases h.symm.trans (exec_of_not_wellFormed hi s)
    exact .refl _ rfl
  | true =>
    cases h.symm.trans (exec_of_wellFormed hi s)
    have hbody : (commandBody i (accept s)).Framed (writesAddr i) s := commandBody_framed (.refl _ rfl)
    exact runCommand_of_sat <| hbody.imp (fun _ _ h => h.congr rfl) (fun _ h => h.congr rfl) (fun _ _ h => h.congr rfl)
      fun _ h => h

/-- Settles O22: every bus primitive of a command keeps the frame, and its writes go where the command may write. -/
theorem memoryAndPortFrame : Obligations.MemoryAndPortFrame := by
  intro i s t h
  obtain ⟨hmemory, hdevice, hinputs, hhost, htimer, hnoWrite⟩ := exec_framed h
  exact ⟨hmemory, hdevice, hinputs, hhost, htimer, hnoWrite⟩

/-! ### Reference devices -/

/-- The whole next state of a WRREG whose transaction succeeds (40_register_access.md R120). -/
theorem exec_wrreg_ok {addr byte : Byte} {s : State} {b : Burst} {rest : List Reply}
    (h : s.env.replies = .ok b :: rest) :
    exec (.wrreg addr byte) s = .next { managedWriteEffects addr s.cleared with
      cc := .ok, errinfo := 0, busy := false, env := deviceWrite { s.env with replies := rest } addr byte
      settleTimer := 0, trace := [.write s.busAddr addr byte .ok, .settle] } := by
  have hbody := memWrite_ok (addr := addr) (v := byte) (s := managedWriteEffects addr (accept s)) h
  rw [exec_of_wellFormed rfl, runCommand_of_go (body := commandBody (.wrreg addr byte)) hbody]
  rfl

/-- The whole next state of a legal RDREG whose transaction succeeds (R121). -/
theorem exec_rdreg_ok {addr : Byte} {count : BitVec 3} {s : State} {b : Burst} {rest : List Reply}
    (hcount : countInRange count = true) (h : s.env.replies = .ok b :: rest) :
    let bytes := deviceRead { s.env with replies := rest } addr b
    exec (.rdreg addr count) s = .next { setRbuf count.toNat bytes s.cleared with
      cc := .ok, errinfo := 0, busy := false, env := { s.env with replies := rest }
      trace := [.read s.busAddr addr count.toNat (.bytes (bytes.toList.take count.toNat))] } := by
  rw [exec_of_wellFormed (i := .rdreg addr count) hcount, runCommand, commandBody, memRead_ok (s := accept s) h,
    Flow.andThen, finish, complete_ok]
  rfl

/-- A reference device returns the bytes it holds, up to 0xFF (R84). -/
theorem storedBurst_getElem {m : Memory} {addr : Byte} {free : Burst} {i : Nat} (hi : i < 6)
    (h : addr.toNat + i < 256) : (storedBurst m addr free)[i] = memByte m (addr.toNat + i) := by
  simp [storedBurst, h]

/-- Settles O52: the write of `exec_wrreg_ok` is a store, and the bytes of `exec_rdreg_ok` are the stored ones. -/
theorem plainDeviceStoresAndReturns : Obligations.PlainDeviceStoresAndReturns := by
  intro s b rest hdevice hmem h
  refine ⟨fun addr byte => ⟨_, exec_wrreg_ok h, rfl, ?stored, deviceWrite_wf addr byte hmem,
    fun a ha => deviceWrite_other _ addr byte ha⟩, ?read⟩
  case stored =>
    simpa [deviceWrite, hdevice] using memByte_memStore_same addr.toNat byte hmem
  case read =>
    intro addr count hlow hhigh hspan
    refine ⟨_, exec_rdreg_ok (decide_eq_true ⟨hlow, hhigh⟩) h, rfl, rfl, fun i hi => ?_⟩
    have hin : addr.toNat + i.val < 256 := by omega
    simp [deviceRead, hdevice, hi, storedBurst_getElem i.isLt hin]

/-- Replacing the range field, with RANGE_MASK as the literal of the spec (R68, R69). -/
theorem rmwByte_rangeMask (v : Byte) (r : RangeEnum) :
    rmwByte v rangeMask (rangeBits r) = (v &&& 0xE7#8) ||| (r.setWidth 8 <<< 3) := rfl

/-- Settles O53: the byte DEV_COERCE stores is read back from canonical memory. -/
theorem coercingDeviceStores : Obligations.CoercingDeviceStores := by
  intro s f g addr v b rest hdevice hmem h
  refine ⟨_, exec_wrreg_ok h, rfl, ?_, fun a ha => deviceWrite_other _ addr v ha⟩
  have hstored : (deviceWrite { s.env with replies := rest } addr v).sensor =
      memStore s.env.sensor addr.toNat (coercedByte f g addr v) := by simp [deviceWrite, hdevice]
  exact (congrArg (memByte · addr.toNat) hstored).trans (memByte_memStore_same _ _ hmem)

end Sys2Proof.Machine
end

section
/-! PROOFS. A write that fails (20_memory.md R84, 60_exceptions.md R219): it ends the command that made it, wherever in
the command it stands. -/

namespace Sys2Proof.Machine

/-- ERRINFO of a failed write, as bits (10_state.md R34). -/
theorem errinfoWord_write {step : Nat} (hstep : step < 16) (addr : Byte) (kind : BusErrorKind) :
    errinfoWord step .write addr kind =
      (addr.setWidth 16 <<< 8) ||| ((kindCode kind).setWidth 16 <<< 5) ||| 0x10#16 ||| BitVec.ofNat 16 step := by
  have hfield : BitVec.ofNat 16 step = (BitVec.ofNat 4 step).setWidth 16 :=
    BitVec.eq_of_toNat_eq (by simp; omega)
  rw [hfield, errinfoWord, directionBit]
  ext i hi
  simp only [BitVec.getElem_append, BitVec.getElem_or, BitVec.getElem_shiftLeft, BitVec.getElem_setWidth]
  interval_cases i <;> simp

/-- The abort, register by register (R219). -/
theorem abort_eq (f : Failure) (s : State) : abort f s = { s with
    lstate := .unknown, cc := .busError, errs := true, busy := false
    errinfo := errinfoWord f.step f.dir f.addr f.kind } := by
  simp [abort, complete]

/-- A command whose body ends at a failed transaction aborts (R219). -/
theorem exec_of_busError {i : Instr} {s t : State} {f : Failure} (hi : i.wellFormed = true)
    (hbody : commandBody i (accept s) = .busError f t) : exec i s = .next (abort f t) := by
  rw [exec_of_wellFormed hi, runCommand, hbody, finish]

/-- A command whose body ends at a failed write: what the body has left of RUN and the results is known of every
command that is cut short, so the environment and the trace remain. -/
theorem abortedAtWrite_of_busError {i : Instr} {s t : State} {step : Nat} {addr v : Byte} {kind : BusErrorKind}
    {before : List BusEvent} {env : Env} (hi : i.wellFormed = true)
    (hbody : commandBody i (accept s) = .busError ⟨step, .write, addr, kind⟩ t) (hstep : step < 16) (henv : t.env = env)
    (htrace : t.trace = before ++ [.write s.busAddr addr v (.error kind)]) :
    AbortedAtWrite s (abort ⟨step, .write, addr, kind⟩ t) step addr v kind before env := by
  have hstands := commandBody_standsFor hi (accept s)
  rw [hbody] at hstands
  obtain ⟨u, hcut, hbus⟩ := hstands
  obtain ⟨acc, gyr, l, rfl⟩ := hcut.frame
  cases hbus
  exact ⟨rfl, rfl, abort_errs _ _, rfl, rfl, accept_noResults s, henv, htrace, errinfoWord_write hstep addr kind⟩

/-- What follows a failed transaction does not run (41_state_machine.md R142). -/
theorem Flow.andThen_of_busError {α β : Type} {r : Flow α} {f : Failure} {t : State} (h : r = .busError f t)
    (next : α → State → Flow β) : r.andThen next = .busError f t := by rw [h, Flow.andThen]

/-- A command that begins with a read-modify-write, after updates of registers, and ends where that ends. -/
theorem aborted_of_rmw_writeError {i : Instr} {s u : State} {addr mask bits : Byte} {b : Burst} {kind : BusErrorKind}
    {rest : List Reply} (h : s.env.replies = .ok b :: .error kind :: rest)
    (hbody : ∀ f t, rmw addr mask bits u = .busError f t → commandBody i (accept s) = .busError f t)
    (hi : i.wellFormed = true := by rfl) (henv : u.env = s.env := by rfl) (hbus : u.busAddr = s.busAddr := by rfl)
    (htrace : u.trace = [] := by rfl) :
    let env := { s.env with replies := rest }
    let old := (deviceRead env addr b)[0]
    ∃ t, exec i s = .next t ∧ AbortedAtWrite s t 1 addr ((old &&& ~~~mask) ||| bits) kind
      [.read s.busAddr addr 1 (.bytes [old])] env := by
  have hfail := hbody _ _ (rmw_writeError (henv ▸ h))
  rw [htrace] at hfail
  refine ⟨_, exec_of_busError hi hfail, abortedAtWrite_of_busError hi hfail (by decide) ?_ ?_⟩
  · simp only [henv]
  · simp only [henv, hbus]
    rfl

/-! ### INIT up to a failed write (R152) -/

/-- A change that clears no bit (00_scope.md R8). -/
theorem rmwByte_clearNone (old bits : Byte) : rmwByte old 0#8 bits = old ||| bits := by
  rw [rmwByte, show ~~~0#8 = BitVec.allOnes 8 from rfl, BitVec.and_allOnes]

/-! In the lemmas below the environment a command begins in is an environment `e` with the script of replies put in.
What the transactions do to the device is then said of `e`, and every step leaves an environment of that form again. -/

/-- Where the script of replies is already `rest`, putting it in changes nothing. -/
theorem Env.withReplies_self {e : Env} {rest : List Reply} (h : e.replies = rest) : { e with replies := rest } = e := by
  subst h; rfl

/-- A write leaves the script of replies. -/
theorem deviceWrite_replies_of_eq {e : Env} {rest : List Reply} (h : e.replies = rest) {addr v : Byte} :
    (deviceWrite e addr v).replies = rest := (deviceWrite_replies e addr v).trans h

/-- RESET with its two transactions answered as successes (R145). -/
theorem resetBody_ok {s : State} {e : Env} {b0 b1 : Burst} {rest : List Reply}
    (h : s.env = { e with replies := .ok b0 :: .ok b1 :: rest }) :
    let old := (deviceRead e 0x6B b0)[0]
    resetBody s = .go () { dropCaches s with
      lstate := .reset, env := { deviceWrite e 0x6B (old ||| 0x80) with replies := rest }, settleTimer := 0
      trace := s.trace ++
        [.read s.busAddr 0x6B 1 (.bytes [old]), .write s.busAddr 0x6B (old ||| 0x80) .ok, .settle] } := by
  rw [resetBody, rmw_ok (s := dropCaches s) (congrArg Env.replies h)]
  simp [Flow.andThen, h, rmwByte_clearNone, resetBit, pwrMgmt1, deviceRead_withReplies, deviceWrite_withReplies]

/-- WAKE with its transaction answered as a success (R146). -/
theorem wakeBody_ok {s : State} {e : Env} {b : Burst} {rest : List Reply}
    (h : s.env = { e with replies := .ok b :: rest }) :
    wakeBody s = .go () { s with
      lstate := lstateAfterWake s.lstate, env := { deviceWrite e 0x6B 0x01 with replies := rest }, settleTimer := 0
      trace := s.trace ++ [.write s.busAddr 0x6B 0x01 .ok, .settle] } := by
  rw [wakeBody, memWrite_ok (congrArg Env.replies h)]
  simp [Flow.andThen, h, pwrMgmt1, wakeByte, deviceWrite_withReplies, settle, startSettle, endSettle, State.record]

/-- WAKE whose write fails (R146, R219). -/
theorem wakeBody_writeError {s : State} {kind : BusErrorKind} {rest : List Reply}
    (h : s.env.replies = .error kind :: rest) :
    wakeBody s = .busError ⟨transactions s.trace, .write, 0x6B, kind⟩ { s with
      env := { s.env with replies := rest }
      trace := s.trace ++ [.write s.busAddr 0x6B 0x01 (.error kind)] } := by
  rw [wakeBody, memWrite_error h]
  rfl

/-- A range-set operation whose three transactions are answered as successes, the device behind the bus being `e`
(R148). -/
theorem setRangeOp_ok_of_env {sensor : Sensor} {r : RangeEnum} {s : State} {e : Env} {b0 b1 b2 : Burst}
    {rest : List Reply} (h : s.env = { e with replies := .ok b0 :: .ok b1 :: .ok b2 :: rest }) :
    let old := (deviceRead e (cfgAddr sensor) b0)[0]
    let new := rmwByte old rangeMask (rangeBits r)
    let back := (deviceRead (deviceWrite e (cfgAddr sensor) new) (cfgAddr sensor) b2)[0]
    setRangeOp sensor r s = .go (rangeField back) (storeReadBack sensor r (rangeField back)
      { dropCache sensor s with
        env := { deviceWrite e (cfgAddr sensor) new with replies := rest }
        settleTimer := 0
        trace := s.trace ++ [.read s.busAddr (cfgAddr sensor) 1 (.bytes [old]),
          .write s.busAddr (cfgAddr sensor) new .ok, .settle,
          .read s.busAddr (cfgAddr sensor) 1 (.bytes [back])] }) := by
  rw [setRangeOp_ok (congrArg Env.replies h)]
  simp only [h, deviceRead_withReplies, deviceWrite_withReplies]

/-- The range-set operations of INIT, with the requested ranges. -/
def initRanges (s : State) : Flow Unit :=
  (setRangeOp .accel s.reqA s).andThen fun _ s => (setRangeOp .gyro s.reqG s).andThen fun _ s => .go () s

/-- INIT is RESET, WAKE and the two range-set operations. -/
theorem initBody_eq (s : State) :
    initBody s = (resetBody s).andThen fun _ s => (wakeBody s).andThen fun _ s => initRanges s := rfl

/-- INIT whose RESET succeeds goes on to WAKE. -/
theorem initBody_afterReset {s : State} {e : Env} {b0 b1 : Burst} {rest : List Reply}
    (h : s.env = { e with replies := .ok b0 :: .ok b1 :: rest }) :
    let old := (deviceRead e 0x6B b0)[0]
    initBody s = (wakeBody { dropCaches s with
      lstate := .reset, env := { deviceWrite e 0x6B (old ||| 0x80) with replies := rest }, settleTimer := 0
      trace := s.trace ++ [.read s.busAddr 0x6B 1 (.bytes [old]), .write s.busAddr 0x6B (old ||| 0x80) .ok,
        .settle] }).andThen fun _ s => initRanges s := by
  rw [initBody_eq, resetBody_ok h, Flow.andThen]

/-- INIT whose RESET and WAKE succeed goes on to the range-set operations. -/
theorem initBody_afterWake {s : State} {e : Env} {b0 b1 b2 : Burst} {rest : List Reply}
    (h : s.env = { e with replies := .ok b0 :: .ok b1 :: .ok b2 :: rest }) :
    let old := (deviceRead e 0x6B b0)[0]
    initBody s = initRanges { dropCaches s with
      lstate := .awake
      env := { deviceWrite (deviceWrite e 0x6B (old ||| 0x80)) 0x6B 0x01 with replies := rest }, settleTimer := 0
      trace := s.trace ++ [.read s.busAddr 0x6B 1 (.bytes [old]), .write s.busAddr 0x6B (old ||| 0x80) .ok, .settle,
        .write s.busAddr 0x6B 0x01 .ok, .settle] } := by
  rw [initBody_afterReset h, wakeBody_ok rfl]
  simp [Flow.andThen, lstateAfterWake]

/-- INIT whose accelerometer range-set operation succeeds goes on to the gyroscope's. -/
theorem initRanges_afterAccel {s : State} {e : Env} {b0 b1 b2 : Burst} {rest : List Reply}
    (h : s.env = { e with replies := .ok b0 :: .ok b1 :: .ok b2 :: rest }) :
    let old := (deviceRead e 0x1C b0)[0]
    let new := rmwByte old rangeMask (rangeBits s.reqA)
    let back := (deviceRead (deviceWrite e 0x1C new) 0x1C b2)[0]
    initRanges s = (setRangeOp .gyro s.reqG { s with
      acc := readBackCache .accel s.reqA (rangeField back), lstate := lstateAfterRangeSet s.lstate true s.gyr.valid
      env := { deviceWrite e 0x1C new with replies := rest }, settleTimer := 0
      trace := s.trace ++ [.read s.busAddr 0x1C 1 (.bytes [old]), .write s.busAddr 0x1C new .ok, .settle,
        .read s.busAddr 0x1C 1 (.bytes [back])] }).andThen fun _ s => .go () s := by
  rw [initRanges, setRangeOp_ok_of_env h]
  rfl

/-- Settles O50: each command is followed to its failed write, by `rmw_writeError` where it begins with a
read-modify-write and along INIT otherwise, and `abortedAtWrite_of_busError` says what the abort leaves. -/
theorem writeFailureAborts : Obligations.WriteFailureAborts := by
  intro s b0 b1 b2 b3 b4 b5 b6 kind rest d env
  have henv {replies : List Reply} (h : s.env.replies = replies) : s.env = { env with replies := replies } :=
    (Env.withReplies_self h).symm
  refine ⟨fun h => ⟨fun addr v => ?wrreg, ?wake⟩, fun h i addr mask bits hi => ?rmw, fun h => ?init2, fun h => ?init4,
    fun h => ?init7⟩
  case wrreg =>
    have hbody : commandBody (.wrreg addr v) (accept s) = .busError ⟨0, .write, addr, kind⟩ _ :=
      memWrite_error (s := managedWriteEffects addr (accept s)) h
    exact ⟨_, exec_of_busError rfl hbody, abortedAtWrite_of_busError rfl hbody (by decide) rfl rfl⟩
  case wake =>
    have hbody : commandBody .wake (accept s) = .busError ⟨0, .write, 0x6B, kind⟩ _ :=
      wakeBody_writeError (s := accept s) h
    refine ⟨_, exec_of_busError rfl hbody, abortedAtWrite_of_busError rfl hbody (by decide) rfl rfl, ?_⟩
    rw [abort_eq]
    rfl
  case rmw =>
    -- RMW, RESET, START, STOP, SETRANGE of either sub-sensor, INIT.
    obtain rfl | ⟨rfl, rfl, rfl, rfl⟩ | ⟨rfl, rfl, rfl, rfl⟩ | ⟨rfl, rfl, rfl, rfl⟩ | ⟨r, rfl, rfl, rfl, rfl⟩ |
      ⟨r, rfl, rfl, rfl, rfl⟩ | ⟨rfl, rfl, rfl, rfl⟩ := hi
    · exact aborted_of_rmw_writeError (u := managedWriteEffects addr (accept s)) h fun _ _ hf => hf
    · exact aborted_of_rmw_writeError (u := dropCaches (accept s)) h fun _ _ hf => Flow.andThen_of_busError hf _
    · exact aborted_of_rmw_writeError (u := accept s) h fun _ _ hf => Flow.andThen_of_busError hf _
    · exact aborted_of_rmw_writeError (u := accept s) h fun _ _ hf => Flow.andThen_of_busError hf _
    · exact aborted_of_rmw_writeError (u := dropCache .accel (accept s)) h fun _ _ hf =>
        Flow.andThen_of_busError (Flow.andThen_of_busError hf _) _
    · exact aborted_of_rmw_writeError (u := dropCache .gyro (accept s)) h fun _ _ hf =>
        Flow.andThen_of_busError (Flow.andThen_of_busError hf _) _
    · exact aborted_of_rmw_writeError (u := dropCaches (accept s)) h fun _ _ hf =>
        Flow.andThen_of_busError (Flow.andThen_of_busError hf _) _
  case init2 =>
    have hbody : commandBody .init (accept s) = .busError ⟨2, .write, 0x6B, kind⟩ _ :=
      (initBody_afterReset (s := accept s) (e := env) (henv h)).trans
        (Flow.andThen_of_busError (wakeBody_writeError rfl) _)
    refine ⟨_, exec_of_busError rfl hbody, abortedAtWrite_of_busError rfl hbody (by decide) ?_ rfl, rfl, rfl⟩
    exact Env.withReplies_self (deviceWrite_replies_of_eq rfl)
  case init4 =>
    have hbody : commandBody .init (accept s) = .busError ⟨4, .write, 0x1C, kind⟩ _ :=
      (initBody_afterWake (s := accept s) (e := env) (henv h)).trans
        (Flow.andThen_of_busError (setRangeOp_writeError rfl) _)
    refine ⟨_, exec_of_busError rfl hbody, abortedAtWrite_of_busError rfl hbody (by decide) ?_ rfl, rfl, rfl⟩
    exact Env.withReplies_self (deviceWrite_replies_of_eq (deviceWrite_replies_of_eq rfl))
  case init7 =>
    have hbody : commandBody .init (accept s) = .busError ⟨7, .write, 0x1B, kind⟩ _ :=
      (initBody_afterWake (s := accept s) (e := env) (henv h)).trans
        ((initRanges_afterAccel rfl).trans (Flow.andThen_of_busError (setRangeOp_writeError rfl) _))
    refine ⟨_, exec_of_busError rfl hbody, abortedAtWrite_of_busError rfl hbody (by decide) ?_ rfl, rfl, rfl⟩
    exact Env.withReplies_self (deviceWrite_replies_of_eq (deviceWrite_replies_of_eq (deviceWrite_replies_of_eq rfl)))

end Sys2Proof.Machine
end

section
/-! PROOFS. The decoder and the encoder (30_encoding.md R90 to R97): the words that fit a row of the opcode map, the
operands of such a word, and the two round trips. -/

namespace Sys2Proof

/-! ### The rows of the opcode map -/

/-- The row's opcode byte finds the row. -/
theorem opOfCode_code (op : Op) : opOfCode (opRow op).code = some op := by
  cases op <;> rfl

theorem opOfCode_eq_some_iff {code : Byte} {op : Op} : opOfCode code = some op ↔ code = (opRow op).code := by
  refine ⟨fun h => ?_, fun h => h ▸ opOfCode_code op⟩
  have hfound : ((opRow op).code == code) = true := List.find?_some (p := fun o => (opRow o).code == code) h
  exact (eq_of_beq hfound).symm

/-- The word has the row's opcode byte, and its operand fields are 0 wherever the row's mask is 1 (R93). -/
structure FitsRow (op : Op) (w : Word) : Prop where
  opcode : opField w = (opRow op).code
  a : aField w &&& aField (opRow op).mask = 0
  b : bField w &&& bField (opRow op).mask = 0
  c : cField w &&& cField (opRow op).mask = 0

theorem fitsRow_iff {op : Op} {w : Word} : FitsRow op w ↔ w &&& (opRow op).mask = (opRow op).pattern := by
  refine ⟨fun h => (Laws.EncodeRow.of_fields h.opcode h.a h.b h.c).1, fun h => ⟨?_, ?_, ?_, ?_⟩⟩
  · have hmask : opField (opRow op).mask = BitVec.allOnes 8 := by cases op <;> rfl
    have hop := congrArg opField h
    rw [opField_and, hmask, BitVec.and_allOnes] at hop
    rw [hop]; cases op <;> rfl
  · rw [← aField_and, h]; cases op <;> rfl
  · rw [← bField_and, h]; cases op <;> rfl
  · rw [← cField_and, h]; cases op <;> rfl

theorem FitsRow.unique {o p : Op} {w : Word} (ho : FitsRow o w) (hp : FitsRow p w) : o = p := by
  apply Option.some.inj
  rw [← opOfCode_code o, ← opOfCode_code p, ← ho.opcode, ← hp.opcode]

/-- Settles O9: a word that fits a row has the row's opcode byte, and no two rows share one. -/
theorem opcodeRowsDisjoint : Obligations.OpcodeRowsDisjoint :=
  fun _ _ _ ho hp => (fitsRow_iff.2 ho).unique (fitsRow_iff.2 hp)

/-- The decoder accepts a word that fits a row and whose operands meet the row's value condition (R94). -/
theorem decode_eq_ok_iff {w : Word} {i : Instr} :
    decode w = .ok i ↔ ∃ op, FitsRow op w ∧ operands op w = .ok i := by
  unfold decode
  constructor
  · intro h
    split at h
    next => cases h
    next op _ =>
      split at h
      next hmatch => exact ⟨op, fitsRow_iff.2 hmatch, h⟩
      next => cases h
  · rintro ⟨op, hfits, hoperands⟩
    rw [opOfCode_eq_some_iff.2 hfits.opcode]
    exact (if_pos (fitsRow_iff.1 hfits)).trans hoperands

/-! ### Operands and their codes -/

@[simp] theorem sensorOfBit_sensorBit (sensor : Sensor) : sensorOfBit (sensorBit sensor) = sensor := by
  cases sensor <;> rfl

@[simp] theorem sensorBit_sensorOfBit (b : BitVec 1) : sensorBit (sensorOfBit b) = b := by
  revert b; decide

@[simp] theorem selOfCode_selCode (sel : ScaleSel) : selOfCode (selCode sel) = some sel := by
  rcases sel with (_ | _) | ⟨_ | _, r⟩
  · rfl
  · rfl
  · revert r; decide
  · revert r; decide

theorem selCode_of_selOfCode {code : BitVec 4} {sel : ScaleSel} (h : selOfCode code = some sel) :
    selCode sel = code := by
  have hinverse : ∀ code : BitVec 4, ∀ sel ∈ selOfCode code, selCode sel = code := by decide
  exact hinverse code sel h

/-- A selector's code is not one of the reserved 2 to 7 (R96). -/
theorem exists_selOfCode_iff (code : BitVec 4) :
    (∃ sel, selOfCode code = some sel) ↔ code.toNat < 2 ∨ 8 ≤ code.toNat := by
  rw [← Option.isSome_iff_exists]
  revert code; decide

/-- The operand in a padded field: the library's lemma with the two widths named, which `simp` cannot find in the type
of a field of 8 bits. -/
theorem low_of_padded (m : Nat) {n : Nat} (x : BitVec n) : (0#m ++ x).extractLsb' 0 n = x :=
  BitVec.extractLsb'_append_eq_right

/-- A field whose high `m` bits are 0 is its low `n` bits, padded. -/
theorem zero_append_low (m n : Nat) {b : BitVec (m + n)} (h : b &&& (BitVec.allOnes m ++ 0#n) = 0#(m + n)) :
    0#m ++ b.extractLsb' 0 n = b := by
  have hhigh : b.extractLsb' n m = 0#m := by
    have hmasked := congrArg (BitVec.extractLsb' n m) h
    rwa [BitVec.extractLsb'_and, BitVec.extractLsb'_append_eq_left, BitVec.and_allOnes,
      BitVec.extractLsb'_zero] at hmasked
  rw [← hhigh, BitVec.extractLsb'_append_extractLsb']

/-- A field with no operand bit is 0. -/
theorem zero_of_full_mask {b : Byte} (h : b &&& BitVec.allOnes 8 = 0) : 0 = b := by
  rw [← h, BitVec.and_allOnes]

/-- The low bits of field `b` are bits of the word. -/
theorem bField_low (w : Word) {n : Nat} (hn : n ≤ 8) : (bField w).extractLsb' 0 n = w.extractLsb' 8 n := by
  ext i hi
  simp [bField, show i < 8 by omega]

theorem operands_rdreg_eq_ok_iff {w : Word} {i : Instr} : operands .rdreg w = .ok i ↔
    countInRange ((bField w).extractLsb' 0 3) = true ∧ i = .rdreg (aField w) ((bField w).extractLsb' 0 3) := by
  by_cases h : countInRange ((bField w).extractLsb' 0 3) = true <;> simp [operands, h, eq_comm]

theorem operands_rdtriple_eq_ok_iff {w : Word} {i : Instr} : operands .rdtriple w = .ok i ↔
    ∃ sel, selOfCode ((bField w).extractLsb' 0 4) = some sel ∧ i = .rdtriple (aField w) sel := by
  cases h : selOfCode ((bField w).extractLsb' 0 4) <;> simp [operands, h, eq_comm]

/-! ### The round trips -/

/-- The opcode byte and the must-be-zero bits of an encoded instruction are those of its row. -/
theorem encode_fitsRow (i : Instr) : FitsRow (instrOp i) (encode i) := by
  suffices h : Laws.EncodeRow.Statement i from fitsRow_iff.2 h.1
  open Laws.EncodeRow in
  cases i with
  | bind => exact bind _ _ _
  | wrreg => exact wrreg _ _
  | rdreg => exact rdreg _ _
  | rmw => exact rmw _ _ _
  | reset => exact reset
  | wake => exact wake
  | setrange => exact setrange _ _
  | getrange => exact getrange _
  | init => exact init
  | start => exact start
  | stop => exact stop
  | probe => exact probe
  | chkid => exact chkid
  | rdtriple => exact rdtriple _ _
  | getacc => exact getacc
  | getgyro => exact getgyro
  | gettemp => exact gettemp

/-- The decoder finds in an encoded word the operands put there. -/
theorem operands_encode {i : Instr} (h : i.wellFormed = true) : operands (instrOp i) (encode i) = .ok i := by
  cases i with
  | bind busaddr reqA reqG =>
    simp [instrOp, operands, encode, low_of_padded 1 busaddr, low_of_padded 6 reqA, low_of_padded 6 reqG]
  | rdreg addr count =>
    have hcount : countInRange count = true := h
    exact operands_rdreg_eq_ok_iff.2 (by simp [encode, low_of_padded 5 count, hcount])
  | setrange sensor r =>
    simp [instrOp, operands, encode, low_of_padded 7 (sensorBit sensor), low_of_padded 6 r]
  | getrange sensor => simp [instrOp, operands, encode, low_of_padded 7 (sensorBit sensor)]
  | rdtriple addr sel =>
    exact operands_rdtriple_eq_ok_iff.2 ⟨sel, by simp [encode, low_of_padded 4 (selCode sel)]⟩
  | wrreg | rmw => simp [instrOp, operands, encode]
  | reset | wake | init | start | stop | probe | chkid | getacc | getgyro | gettemp => rfl

/-- Settles O6: an encoded instruction fits its row, and the row's operands are read back. -/
theorem decodeOfEncode : Obligations.DecodeOfEncode :=
  fun i h => decode_eq_ok_iff.2 ⟨instrOp i, encode_fitsRow i, operands_encode h⟩

/-- Operands are read from a word only with the row's value condition (R93). -/
theorem wellFormed_of_operands {op : Op} {w : Word} {i : Instr} (h : operands op w = .ok i) : i.wellFormed = true := by
  cases op with
  | rdreg =>
    obtain ⟨hcount, rfl⟩ := operands_rdreg_eq_ok_iff.1 h
    exact hcount
  | rdtriple =>
    obtain ⟨sel, -, rfl⟩ := operands_rdtriple_eq_ok_iff.1 h
    rfl
  | _ => cases h; rfl

/-- A word that fits a row is the row's opcode byte before its three operand fields. -/
theorem FitsRow.wordOf_eq {op : Op} {w : Word} {a b c : Byte} (h : FitsRow op w) (ha : a = aField w) (hb : b = bField w)
    (hc : c = cField w) : wordOf (opRow op).code a b c = w := by
  rw [ha, hb, hc, ← h.opcode, wordOf_fields]

/-- The operands of a word that fits the row fill its fields again: the mask makes every bit they do not hold 0. -/
theorem encode_of_operands {op : Op} {w : Word} {i : Instr} (hfits : FitsRow op w) (h : operands op w = .ok i) :
    encode i = w := by
  have ha := hfits.a
  have hb := hfits.b
  have hc := hfits.c
  cases op with
  | bind =>
    cases h
    exact hfits.wordOf_eq (zero_append_low 1 7 ha) (zero_append_low 6 2 hb) (zero_append_low 6 2 hc)
  | wrreg =>
    cases h
    exact hfits.wordOf_eq rfl rfl (zero_of_full_mask hc)
  | rdreg =>
    obtain ⟨-, rfl⟩ := operands_rdreg_eq_ok_iff.1 h
    exact hfits.wordOf_eq rfl (zero_append_low 5 3 hb) (zero_of_full_mask hc)
  | rmw =>
    cases h
    exact hfits.wordOf_eq rfl rfl rfl
  | setrange =>
    cases h
    refine hfits.wordOf_eq ?_ (zero_append_low 6 2 hb) (zero_of_full_mask hc)
    rw [sensorBit_sensorOfBit]
    exact zero_append_low 7 1 ha
  | getrange =>
    cases h
    refine hfits.wordOf_eq ?_ (zero_of_full_mask hb) (zero_of_full_mask hc)
    rw [sensorBit_sensorOfBit]
    exact zero_append_low 7 1 ha
  | rdtriple =>
    obtain ⟨sel, hsel, rfl⟩ := operands_rdtriple_eq_ok_iff.1 h
    refine hfits.wordOf_eq rfl ?_ (zero_of_full_mask hc)
    rw [selCode_of_selOfCode hsel]
    exact zero_append_low 4 4 hb
  | reset | wake | init | start | stop | probe | chkid | getacc | getgyro | gettemp =>
    cases h
    exact hfits.wordOf_eq (zero_of_full_mask ha) (zero_of_full_mask hb) (zero_of_full_mask hc)

/-- Settles O7: the decoder answers the operands of a word that fits a row. -/
theorem encodeOfDecode : Obligations.EncodeOfDecode := by
  intro w i h
  obtain ⟨op, hfits, hoperands⟩ := decode_eq_ok_iff.1 h
  exact ⟨encode_of_operands hfits hoperands, wellFormed_of_operands hoperands⟩

/-! ### The legal words -/

/-- Of the rows only RDREG and RDTRIPLE have a value condition (R93). -/
theorem exists_operands_iff (op : Op) (w : Word) : (∃ i, operands op w = .ok i) ↔
    (op = .rdreg → 1 ≤ (w.extractLsb' 8 3).toNat ∧ (w.extractLsb' 8 3).toNat ≤ 6) ∧
      (op = .rdtriple → (w.extractLsb' 8 4).toNat < 2 ∨ 8 ≤ (w.extractLsb' 8 4).toNat) := by
  cases op with
  | rdreg => simp [operands_rdreg_eq_ok_iff, bField_low, countInRange]
  | rdtriple =>
    simpa [operands_rdtriple_eq_ok_iff, bField_low] using exists_selOfCode_iff (w.extractLsb' 8 4)
  | _ => exact ⟨fun _ => ⟨nofun, nofun⟩, fun _ => ⟨_, rfl⟩⟩

/-- Settles O8: the decoder accepts the words that fit a row and meet its value condition. -/
theorem legalWordsExactly : Obligations.LegalWordsExactly := by
  intro w
  simp only [decode_eq_ok_iff]
  constructor
  · rintro ⟨i, op, hfits, hoperands⟩
    exact ⟨op, hfits.opcode.symm, fitsRow_iff.1 hfits, (exists_operands_iff op w).1 ⟨i, hoperands⟩⟩
  · rintro ⟨op, -, hmatch, hvalues⟩
    obtain ⟨i, hoperands⟩ := (exists_operands_iff op w).2 hvalues
    exact ⟨i, op, fitsRow_iff.2 hmatch, hoperands⟩

/-- Settles O10: the decoder is run on each word. -/
theorem specWordsDecode : Obligations.SpecWordsDecode := by
  unfold Obligations.SpecWordsDecode
  decide

end Sys2Proof
end

section
/-! PROOFS. The step of a block whose command hangs (60_exceptions.md R228; 70_reset_and_hazards.md R240). -/

namespace Sys2Proof.Machine

theorem step_of_no_input_busy {s : State} (h : s.inputs = []) (hbusy : s.busy = true) :
    step s = .fault .transactionNeverReturned := by
  simp [step, hostStep, h, hbusy]

theorem step_of_write_cmd_busy {s : State} {w : Word} {rest : List HostInput} (hbusy : s.busy = true)
    (h : s.inputs = .write cmdIndex w :: rest) : step s = .fault .transactionNeverReturned := by
  simp [step, hostStep, h, hostWrite, hbusy]

/-- Settles O3: by the host's next input. -/
theorem hungBlockAcceptsNothing : Obligations.HungBlockAcceptsNothing :=
  fun _ hbusy => ⟨fun h => step_of_no_input_busy h hbusy, fun _ _ h => step_of_write_cmd_busy hbusy h,
    fun _ h => ⟨_, step_of_blockReset h, rfl, rfl⟩⟩

end Sys2Proof.Machine
end

section
/-! PROOFS. GETACC and GETGYRO are triple decodes (30_encoding.md R100). -/

namespace Sys2Proof.Machine

/-- Settles O46: the dispatch of the two commands is that of the triple decodes. -/
theorem getaccGetgyroAreTriples : Obligations.GetaccGetgyroAreTriples :=
  fun s => ⟨exec_getacc s, exec_getgyro s⟩

end Sys2Proof.Machine
end

section
/-! PROOFS. The register access commands (40_register_access.md): the managed-register effects of the raw writes, however
they end, and the whole next states of WRREG and RDREG. -/

namespace Sys2Proof.Machine

/-- A raw write to an address that manages no register keeps LSTATE (R124). -/
theorem managedWriteEffects_lstate_unmanaged {addr : Byte} (s : State) (haccel : addr ≠ 0x1C) (hgyro : addr ≠ 0x1B)
    (hpower : addr ≠ 0x6B) : (managedWriteEffects addr s).lstate = s.lstate :=
  if_neg (not_or.2 ⟨hgyro, not_or.2 ⟨haccel, hpower⟩⟩)

/-! ### The raw writes, however they end -/

/-- WRREG or RMW of the register at `addr`. -/
def IsRawWrite (addr : Byte) (i : Instr) : Prop := (∃ v, i = .wrreg addr v) ∨ (∃ m v, i = .rmw addr m v)

/-- A raw write that goes on to its end has written, of the registers, what the managed-register effects write. -/
theorem OkEffect.eq_of_isRawWrite {s u : State} {i : Instr} {addr : Byte} (h : OkEffect s i u)
    (hi : IsRawWrite addr i) : u = managedWriteEffects addr s := by
  obtain ⟨_, rfl⟩ | ⟨_, _, rfl⟩ := hi <;> cases h <;> rfl

/-- A raw write that is cut short has written the same: the effects come before the first transaction. -/
theorem CutEffect.eq_of_isRawWrite {s u : State} {i : Instr} {addr : Byte} (h : CutEffect s i u)
    (hi : IsRawWrite addr i) : u = managedWriteEffects addr s := by
  obtain ⟨_, rfl⟩ | ⟨_, _, rfl⟩ := hi <;> cases h <;> rfl

/-- A raw write leaves the caches, RUN and LSTATE as the managed-register effects do, but for the LSTATE of an abort. -/
theorem managed_of_exec_rawWrite {i : Instr} {s t : State} {addr : Byte} (hi : IsRawWrite addr i)
    (h : exec i s = .next t) :
    let m := managedWriteEffects addr s
    t.acc = m.acc ∧ t.gyr = m.gyr ∧ t.run = s.run ∧
      (t.lstate = m.lstate ∨ t.busy = false ∧ t.cc = .busError ∧ t.lstate = .unknown) := by
  cases commandEnd_of_exec h with
  | ok hu ht | hung hu ht =>
    cases hu.eq_of_isRawWrite hi
    cases ht
    exact ⟨rfl, rfl, rfl, .inl rfl⟩
  | aborted hu ht =>
    cases hu.eq_of_isRawWrite hi
    cases ht
    exact ⟨rfl, rfl, rfl, .inr ⟨rfl, rfl, rfl⟩⟩
  | noScale hscale => obtain ⟨_, rfl⟩ | ⟨_, _, rfl⟩ := hi <;> cases hscale
  | illegal hillegal => obtain ⟨_, rfl⟩ | ⟨_, _, rfl⟩ := hi <;> cases hillegal

/-- Settles O24: the raw writes by the effects computed at each managed address, where an abort leaves LSTATE UNKNOWN too;
WAKE, START and STOP by `cacheWriters`. -/
theorem rawWrites_managedWriteEffects : Obligations.ManagedWriteEffects := by
  refine ⟨fun i addr s t hi h => ?raw, fun i s t hi h => ?stateMachine⟩
  case raw =>
    obtain ⟨hacc, hgyr, hrun, hlstate⟩ := managed_of_exec_rawWrite hi h
    have hunknown : (managedWriteEffects addr s).lstate = .unknown → t.lstate = .unknown :=
      fun hm => hlstate.elim (·.trans hm) fun ⟨_, _, habort⟩ => habort
    refine ⟨?accel, ?gyro, ?power, fun haccel hgyro hpower => ?other, hrun⟩
    case accel =>
      rintro rfl
      exact ⟨hacc, hgyr, hunknown rfl⟩
    case gyro =>
      rintro rfl
      exact ⟨hgyr, hacc, hunknown rfl⟩
    case power =>
      rintro rfl
      exact ⟨hacc, hgyr, hunknown rfl⟩
    case other =>
      rw [managedWriteEffects_acc s haccel hpower] at hacc
      rw [managedWriteEffects_gyr s hgyro hpower] at hgyr
      rw [managedWriteEffects_lstate_unmanaged s haccel hgyro hpower] at hlstate
      exact ⟨hacc, hgyr, hlstate⟩
  case stateMachine =>
    obtain rfl | rfl | rfl := hi <;> exact cacheWriters _ s t h

/-! ### The whole next states of WRREG and RDREG -/

/-- Settles O31: `exec_wrreg_ok` with the managed-register effects written out. -/
theorem wrregWritesRegister : Obligations.WrregWritesRegister :=
  fun _ _ _ _ _ h => exec_wrreg_ok h

/-- The whole state after an illegal command (60_exceptions.md R212). -/
theorem illegalCommand_eq (s : State) : illegalCommand s = { s.cleared with
    cc := .illegalCmd, errs := true, errinfo := 0, busy := false } := by
  simp [illegalCommand, complete, accept, invalidateResults, State.cleared]

/-- Settles O32: `exec_rdreg_ok` for the legal counts; with the others the instruction is not well-formed. -/
theorem rdregReadsRegisters : Obligations.RdregReadsRegisters := by
  refine ⟨fun addr count s b rest hlow hhigh h => ?read, fun addr count s hcount => ?illegal⟩
  case read =>
    rw [exec_rdreg_ok (decide_eq_true ⟨hlow, hhigh⟩) h, setRbuf, BitVec.ofNat_toNat, BitVec.setWidth_eq]
  case illegal =>
    have hillegal : (Instr.rdreg addr count).wellFormed = false := by
      obtain rfl | rfl := hcount <;> rfl
    rw [exec_of_not_wellFormed hillegal, illegalCommand_eq]

end Sys2Proof.Machine
end

section
/-! PROOFS. The state machine commands whose transactions all succeed (41_state_machine.md R143 to R158): the whole next
state of each, from the body followed to its last line. -/

namespace Sys2Proof.Machine

/-- A legal command whose body goes on to its end, leaving the environment `env`, completes OK
(60_exceptions.md R210). -/
theorem exec_of_go {i : Instr} {s t : State} {env : Env} (hi : i.wellFormed = true)
    (hbody : commandBody i (accept s) = .go () t) (henv : t.env = env := by rfl) :
    exec i s = .next { t with cc := .ok, errinfo := 0, busy := false, env := env } := by
  rw [exec_of_wellFormed hi, runCommand_of_go hbody, ← henv]

/-- What follows an operation that goes on runs from the state it leaves (41_state_machine.md R142). -/
theorem Flow.andThen_of_go {α β : Type} {r : Flow α} {a : α} {t : State} (h : r = .go a t)
    (next : α → State → Flow β) : r.andThen next = next a t := by rw [h, Flow.andThen]

/-! ### Commands without a write -/

/-- Settles O34: BIND makes no transaction; the registers it does not write are those acceptance clears. -/
theorem bindConstructsHandle : Obligations.BindConstructsHandle := by
  refine fun busaddr reqA reqG s => ⟨rfl, fun hidle => ?_⟩
  have hexec : exec (.bind busaddr reqA reqG) s = .next { State.reset with
    busAddr := busaddr, reqA := reqA, reqG := reqG, settleTimer := s.settleTimer
    env := s.env, inputs := s.inputs, hostData := s.hostData } := rfl
  rw [hexec, hidle]
  rfl

/-- Settles O38: the body ends at `getRangeOp_ok`. -/
theorem getrangeReadsEnum : Obligations.GetrangeReadsEnum := by
  intro sensor s b rest h
  rw [exec_of_go (i := .getrange sensor) rfl (Flow.andThen_of_go (getRangeOp_ok (s := accept s) h) _)]
  cases sensor <;> rfl

/-- Settles O44: the body ends at `memRead_ok`, with the one byte read. -/
theorem chkidComparesConstant : Obligations.ChkidComparesConstant := by
  intro s b rest h
  have hread := memRead_ok (addr := deviceId) (n := 1) (s := accept s) h
  rw [burst_take_one] at hread
  exact (exec_of_go (i := .chkid) rfl (Flow.andThen_of_go hread _) :)

/-- A scripted scan is the one given (20_memory.md R63). -/
theorem nextScan_of_cons {e : Env} {p : ScanSet} {rest : List ScanSet} (h : e.scans = p :: rest) :
    nextScan e = (p, { e with scans := rest }) := by
  simp [nextScan, h]

/-- A scan takes from the script of sets or draws a free value, and leaves the rest of the environment (R63). -/
theorem nextScan_env (e : Env) :
    (nextScan e).2 = { e with scans := (nextScan e).2.scans, drawn := (nextScan e).2.drawn } := by
  unfold nextScan
  split <;> rfl

/-- Settles O43: the scan always goes on, and `nextScan_env` says what it takes from the environment. -/
theorem probeTestsBusAddr : Obligations.ProbeTestsBusAddr := by
  refine fun s => ⟨(nextScan s.env).1, (nextScan s.env).2.scans, (nextScan s.env).2.drawn, fun p rest h => ?_, ?_⟩
  · rw [nextScan_of_cons h]
    exact ⟨rfl, rfl, rfl⟩
  · exact (exec_of_go (i := .probe) rfl (Flow.andThen_of_go rfl _) (nextScan_env s.env) :)

/-! ### Commands that write PWR_MGMT_1 -/

/-- Settles O35: the body ends at `resetBody_ok`. -/
theorem resetSetsResetBit : Obligations.ResetSetsResetBit := by
  intro s b0 b1 rest h
  have hbody := resetBody_ok (s := accept s) (e := { s.env with replies := rest }) (Env.withReplies_self h).symm
  exact (exec_of_go (i := .reset) rfl hbody (Env.withReplies_self (deviceWrite_replies_of_eq rfl)) :)

/-- Settles O36: the body ends at `wakeBody_ok`. -/
theorem wakeWritesWholeByte : Obligations.WakeWritesWholeByte := by
  intro s b rest h
  have hbody := wakeBody_ok (s := accept s) (e := { s.env with replies := rest }) (Env.withReplies_self h).symm
  exact (exec_of_go (i := .wake) rfl hbody (Env.withReplies_self (deviceWrite_replies_of_eq rfl)) :)

/-- The byte START writes (R153). -/
theorem rmwByte_clearSleepBit (old : Byte) : rmwByte old sleepBit 0x00 = old &&& 0xBF := by
  simp [rmwByte, sleepBit]

/-- The byte STOP writes (R154). -/
theorem rmwByte_setSleepBit (old : Byte) : rmwByte old 0x00 sleepBit = old ||| 0x40 := by
  simp [rmwByte_clearNone, sleepBit]

/-- START leads to RUNNING from CONFIGURED, RUNNING and STOPPED (R141, R153). -/
theorem lstateAfterStart_eq (l : LState) :
    lstateAfterStart l = if l = .configured ∨ l = .running ∨ l = .stopped then .running else .unknown := by
  cases l <;> rfl

/-- STOP leads to STOPPED from CONFIGURED, RUNNING and STOPPED (R141, R154). -/
theorem lstateAfterStop_eq (l : LState) :
    lstateAfterStop l = if l = .configured ∨ l = .running ∨ l = .stopped then .stopped else .unknown := by
  cases l <;> rfl

/-- Settles O41: the two transactions of `rmw_ok`, then RUN and LSTATE. -/
theorem startClearsSleepBit : Obligations.StartClearsSleepBit := by
  intro s b0 b1 rest h env old
  rw [← rmwByte_clearSleepBit, ← lstateAfterStart_eq]
  exact (exec_of_go (i := .start) rfl (Flow.andThen_of_go (rmw_ok (s := accept s) h) _) :)

/-- Settles O42: the two transactions of `rmw_ok`, then RUN and LSTATE. -/
theorem stopSetsSleepBit : Obligations.StopSetsSleepBit := by
  intro s b0 b1 rest h env old
  rw [← rmwByte_setSleepBit, ← lstateAfterStop_eq]
  exact (exec_of_go (i := .stop) rfl (Flow.andThen_of_go (rmw_ok (s := accept s) h) _) :)

/-! ### Commands that set a range -/

/-- The stores of an accelerometer range-set operation, register by register (R148). -/
theorem storeReadBack_accel (r e : RangeEnum) (s : State) : storeReadBack .accel r e s = { s with
    acc := readBackCache .accel r e
    lstate := if s.lstate = .awake ∧ s.gyr.valid = true then .configured else s.lstate } := by
  simp [storeReadBack, lstateAfterRangeSet, readBackCache, State.setCache]

/-- The stores of a gyroscope range-set operation, register by register (R148). -/
theorem storeReadBack_gyro (r e : RangeEnum) (s : State) : storeReadBack .gyro r e s = { s with
    gyr := readBackCache .gyro r e
    lstate := if s.lstate = .awake ∧ s.acc.valid = true then .configured else s.lstate } := by
  simp [storeReadBack, lstateAfterRangeSet, readBackCache, State.setCache]

/-- Settles O37: the three transactions of `setRangeOp_ok`, and the stores of its read-back for either sub-sensor. -/
theorem setrangeStoresReadBack : Obligations.SetrangeStoresReadBack := by
  intro sensor r s b0 b1 b2 rest h
  rw [exec_of_go (i := .setrange sensor r) rfl (Flow.andThen_of_go (setRangeOp_ok (s := accept s) h) _)]
  cases sensor
  · rw [storeReadBack_accel]
    rfl
  · rw [storeReadBack_gyro]
    rfl

/-- Two range-set operations lead from AWAKE to CONFIGURED, whatever the second valid bit was before (R148, R152). -/
theorem lstateAfterRangeSet_twice (gvalid : Bool) :
    lstateAfterRangeSet (lstateAfterRangeSet .awake true gvalid) true true = .configured := by
  cases gvalid <;> rfl

/-- The range-set operations of INIT with their six transactions answered as successes, from LSTATE AWAKE (R152). -/
theorem initRanges_ok {s : State} {e : Env} {b0 b1 b2 b3 b4 b5 : Burst} {rest : List Reply}
    (h : s.env = { e with replies := .ok b0 :: .ok b1 :: .ok b2 :: .ok b3 :: .ok b4 :: .ok b5 :: rest })
    (hl : s.lstate = .awake) :
    let oldA := (deviceRead e 0x1C b0)[0]
    let newA := rmwByte oldA rangeMask (rangeBits s.reqA)
    let e1 := deviceWrite e 0x1C newA
    let backA := (deviceRead e1 0x1C b2)[0]
    let oldG := (deviceRead e1 0x1B b3)[0]
    let newG := rmwByte oldG rangeMask (rangeBits s.reqG)
    let e2 := deviceWrite e1 0x1B newG
    let backG := (deviceRead e2 0x1B b5)[0]
    initRanges s = .go () { s with
      acc := readBackCache .accel s.reqA (rangeField backA), gyr := readBackCache .gyro s.reqG (rangeField backG)
      lstate := .configured, settleTimer := 0, env := { e2 with replies := rest }
      trace := s.trace ++ [.read s.busAddr 0x1C 1 (.bytes [oldA]), .write s.busAddr 0x1C newA .ok, .settle,
        .read s.busAddr 0x1C 1 (.bytes [backA]), .read s.busAddr 0x1B 1 (.bytes [oldG]),
        .write s.busAddr 0x1B newG .ok, .settle, .read s.busAddr 0x1B 1 (.bytes [backG])] } := by
  intro oldA newA e1 backA oldG newG e2 backG
  rw [initRanges_afterAccel h, hl, ← lstateAfterRangeSet_twice s.gyr.valid]
  refine (Flow.andThen_of_go (setRangeOp_ok_of_env rfl) _).trans ?_
  simp only [List.append_assoc]
  rfl

/-- Settles O39: RESET and WAKE, then both range-set operations, with the replies put back into the environment. -/
theorem initRunsFullSequence : Obligations.InitRunsFullSequence := by
  intro s b0 b1 b2 b3 b4 b5 b6 b7 b8 rest h
  have hwake := initBody_afterWake (s := accept s) (e := { s.env with replies := rest }) (Env.withReplies_self h).symm
  exact (exec_of_go (i := .init) rfl (hwake.trans (initRanges_ok rfl rfl))
    (Env.withReplies_self (by simp only [deviceWrite_replies])) :)

end Sys2Proof.Machine
end

section
/-! PROOFS. LSTATE after every command, and what a range-set operation or INIT that is cut short leaves
(41_state_machine.md R141, R148, R152; 60_exceptions.md R220). -/

namespace Sys2Proof.Machine

/-! ### LSTATE (R141) -/

/-- A raw write makes LSTATE UNKNOWN at the managed addresses and keeps it at the others (R124). -/
theorem managedWriteEffects_lstate (addr : Byte) (s : State) : (managedWriteEffects addr s).lstate =
    if addr = 0x1B ∨ addr = 0x1C ∨ addr = 0x6B then .unknown else s.lstate := rfl

/-- A range-set operation leads from AWAKE to CONFIGURED when both valid bits are then 1, and keeps LSTATE otherwise. -/
theorem lstateAfterRangeSet_eq_table (sensor : Sensor) (r : RangeEnum) (l : LState) (avalid gvalid : Bool) :
    lstateAfterRangeSet l avalid gvalid = lstateTable (.setrange sensor r) l (avalid && gvalid) := by
  cases l <;> simp [lstateAfterRangeSet, lstateTable]

theorem lstateAfterWake_eq_table (l : LState) (valid : Bool) : lstateAfterWake l = lstateTable .wake l valid := by
  cases l <;> rfl

theorem lstateAfterStart_eq_table (l : LState) (valid : Bool) : lstateAfterStart l = lstateTable .start l valid := by
  cases l <;> rfl

theorem lstateAfterStop_eq_table (l : LState) (valid : Bool) : lstateAfterStop l = lstateTable .stop l valid := by
  cases l <;> rfl

/-- The whole effect of a command takes LSTATE to the entry of the table (R141). -/
theorem OkEffect.lstate_eq_table {s u : State} {i : Instr} (h : OkEffect s i u) :
    u.lstate = lstateTable i s.lstate (u.acc.valid && u.gyr.valid) := by
  cases h with
  | wrreg addr | rmw addr => exact managedWriteEffects_lstate addr s
  | wake => exact lstateAfterWake_eq_table _ _
  | setrange sensor r e =>
    refine Eq.trans ?_ (lstateAfterRangeSet_eq_table sensor r _ _ _)
    cases sensor <;> rfl
  | start => exact lstateAfterStart_eq_table _ _
  | stop => exact lstateAfterStop_eq_table _ _
  | _ => rfl

/-- A raw write to a managed register makes LSTATE UNKNOWN, however it ends (R124). -/
theorem lstate_unknown_of_managedWrite {i : Instr} {s t : State} {addr : Byte} (hi : IsRawWrite addr i)
    (haddr : addr = 0x1B ∨ addr = 0x1C ∨ addr = 0x6B) (h : exec i s = .next t) : t.lstate = .unknown := by
  obtain ⟨-, -, -, heffect | ⟨-, -, habort⟩⟩ := managed_of_exec_rawWrite hi h
  · rw [heffect, managedWriteEffects_lstate, if_pos haddr]
  · exact habort

/-- Settles O23: the commands by the ways they can end, and the raw writes by their managed-register effects. -/
theorem lstateNextState : Obligations.LstateNextState := by
  refine ⟨fun i s t h hidle => ?_, fun _ => rfl, fun addr v m s t haddr =>
    ⟨lstate_unknown_of_managedWrite (.inl ⟨v, rfl⟩) haddr,
      lstate_unknown_of_managedWrite (.inr ⟨m, v, rfl⟩) haddr⟩⟩
  cases commandEnd_of_exec h with
  | ok hu ht =>
    have hlstate := hu.lstate_eq_table
    cases ht
    exact ⟨fun _ => hlstate, nofun, nofun⟩
  | noScale | illegal => exact ⟨nofun, nofun, fun _ => rfl⟩
  | aborted => exact ⟨nofun, fun _ => rfl, nofun⟩
  | hung hu ht =>
    obtain ⟨_, _, _, rfl⟩ := hu.frame
    cases ht
    cases hidle

/-! ### Commands that are cut short -/

/-- Settles O51: a SETRANGE that does not complete OK is cut short after it has dropped its cache. -/
theorem setrangeAbortLeavesNoRange : Obligations.SetrangeAbortLeavesNoRange := by
  intro sensor r s t h hnot
  cases commandEnd_of_exec h with
  | ok => exact absurd hnot (by simp)
  | noScale hsel => cases hsel
  | illegal hi => cases hi
  | aborted hu ht | hung hu ht =>
    cases hu
    cases ht
    cases sensor <;> exact ⟨rfl, rfl⟩

/-- Settles O40: INIT is followed to the failed write of GYRO_CONFIG, its eighth transaction, and aborts. -/
theorem initAbortKeepsEarlierSteps : Obligations.InitAbortKeepsEarlierSteps := by
  intro s b0 b1 b2 b3 b4 b5 b6 kind rest h
  have hbody : commandBody .init (accept s) = .busError ⟨7, .write, 0x1B, kind⟩ _ :=
    (initBody_afterWake (s := accept s) (e := { s.env with replies := rest }) (Env.withReplies_self h).symm).trans
      ((initRanges_afterAccel rfl).trans (Flow.andThen_of_busError (setRangeOp_writeError rfl) _))
  refine ⟨_, _, exec_of_busError rfl hbody, rfl, rfl, rfl, rfl, rfl, abort_errs _ _, rfl, ?_, rfl, rfl, rfl⟩
  cases kind <;> rfl

end Sys2Proof.Machine
end

section
/-! PROOFS. START, STOP and INIT repeated under DEV_PLAIN (41_state_machine.md R155): each command's whole effect as one
update of the registers and one of the memory, both of which change nothing when made twice. -/

namespace Sys2Proof.Machine

/-! ### A register changed in place -/

/-- The memory after the register at `addr` is changed by `f`. -/
def memUpdate (m : Memory) (addr : Byte) (f : Byte → Byte) : Memory := memStore m addr.toNat (f (memByte m addr.toNat))

theorem memUpdate_wf {m : Memory} (addr : Byte) (f : Byte → Byte) (hm : Memory.wf m = true) :
    Memory.wf (memUpdate m addr f) = true := memStore_wf addr _ hm

theorem memByte_memUpdate_same {m : Memory} (addr : Byte) (f : Byte → Byte) (hm : Memory.wf m = true) :
    memByte (memUpdate m addr f) addr.toNat = f (memByte m addr.toNat) := memByte_memStore_same _ _ hm

theorem memByte_memUpdate_other (m : Memory) {addr a : Byte} (f : Byte → Byte) (h : a ≠ addr) :
    memByte (memUpdate m addr f) a.toNat = memByte m a.toNat :=
  memByte_memStore_other m _ fun heq => h (BitVec.eq_of_toNat_eq heq)

/-- A change that leaves the byte a register holds leaves the memory. -/
theorem memUpdate_of_fixed {m : Memory} {addr : Byte} {f : Byte → Byte} (hm : Memory.wf m = true)
    (h : f (memByte m addr.toNat) = memByte m addr.toNat) : memUpdate m addr f = m := by
  rw [memUpdate, h]
  exact memStore_memByte _ hm

/-- A read-modify-write made again writes the same byte (00_scope.md R8). -/
theorem rmwByte_rmwByte (v mask bits : Byte) : rmwByte (rmwByte v mask bits) mask bits = rmwByte v mask bits := by
  ext i hi
  simp only [rmwByte, BitVec.getElem_or, BitVec.getElem_and, BitVec.getElem_not]
  cases v[i] <;> cases mask[i] <;> cases bits[i] <;> rfl

theorem memUpdate_rmwByte_twice {m : Memory} (addr mask bits : Byte) (hm : Memory.wf m = true) :
    memUpdate (memUpdate m addr (rmwByte · mask bits)) addr (rmwByte · mask bits) =
      memUpdate m addr (rmwByte · mask bits) :=
  memUpdate_of_fixed (memUpdate_wf addr _ hm) (by rw [memByte_memUpdate_same addr _ hm, rmwByte_rmwByte])

/-! ### What DEV_PLAIN stores and returns (20_memory.md R84) -/

/-- A read of one byte returns the byte DEV_PLAIN holds. -/
theorem deviceRead_plain {e : Env} (h : e.device = .plain) (m : Memory) (replies : List Reply) (addr : Byte)
    (b : Burst) :
    (deviceRead { e with sensor := m, replies := replies } addr b)[0] = memByte m addr.toNat := by
  simp only [deviceRead, h]
  exact storedBurst_getElem (by decide) addr.isLt

/-- A write to DEV_PLAIN is a store. -/
theorem deviceWrite_plain {e : Env} (h : e.device = .plain) (m : Memory) (replies : List Reply) (addr v : Byte) :
    deviceWrite { e with sensor := m, replies := replies } addr v =
      { e with sensor := memStore m addr.toNat v, replies := replies } := by
  simp only [deviceWrite, h]

/-! ### Commands that succeed under DEV_PLAIN -/

/-- The command `i`, its `n` transactions answered as successes under DEV_PLAIN, writes the registers as `regs` and the
memory as `store`, and waits `waits` times. -/
def PlainEffect (i : Instr) (n waits : Nat) (regs : State → State) (store : State → Memory) : Prop :=
  ∀ (s : State) (bursts : List Burst) (rest : List Reply), bursts.length = n →
    s.env.replies = bursts.map .ok ++ rest → s.env.device = .plain → Memory.wf s.env.sensor = true →
    ∃ trace, transactions trace = n ∧ trace.countP BusEvent.isSettle = waits ∧
      exec i s = .next { regs s with env := { s.env with replies := rest, sensor := store s }, trace := trace }

/-- A command whose updates of the registers and of the memory change nothing when made again ends, issued twice, as
issued once. -/
theorem PlainEffect.twice {i : Instr} {n waits : Nat} {regs : State → State} {store : State → Memory}
    (heffect : PlainEffect i n waits regs store) (hcode : ∀ s, (regs s).cc = .ok)
    (hregs : ∀ s env trace, ∃ trace', regs { regs s with env := env, trace := trace } =
      { regs s with env := env, trace := trace' })
    (hwf : ∀ s, Memory.wf s.env.sensor = true → Memory.wf (store s) = true)
    (hstore : ∀ s replies trace, Memory.wf s.env.sensor = true → store { regs s with
      env := { s.env with replies := replies, sensor := store s }, trace := trace } = store s)
    {s t u : State} {bursts : List Burst} {rest : List Reply} (hlength : bursts.length = n + n)
    (h : s.env.replies = bursts.map .ok ++ rest) (hplain : s.env.device = .plain)
    (hmem : Memory.wf s.env.sensor = true) (ht : exec i s = .next t) (hu : exec i t = .next u) :
    u.env.sensor = t.env.sensor ∧ u = { t with env := { t.env with replies := rest }, trace := u.trace } ∧
      t.cc = .ok ∧ transactions u.trace = n ∧ u.trace.countP BusEvent.isSettle = waits := by
  have hsplit : s.env.replies = (bursts.take n).map .ok ++ ((bursts.drop n).map .ok ++ rest) := by
    rw [h, ← List.append_assoc, ← List.map_append, List.take_append_drop]
  obtain ⟨trace, -, -, hfirst⟩ := heffect s _ _ (by simp [hlength]) hsplit hplain hmem
  have ht' := Host.Outcome.next.inj (ht.symm.trans hfirst)
  obtain ⟨trace', hn, hwaits, hsecond⟩ := heffect t (bursts.drop n) rest (by simp [hlength]) (by rw [ht'])
    (by rw [ht']; exact hplain) (by rw [ht']; exact hwf s hmem)
  cases hu.symm.trans hsecond
  subst ht'
  obtain ⟨_, hregs'⟩ := hregs s { s.env with replies := (bursts.drop n).map .ok ++ rest, sensor := store s } trace
  rw [hregs', hstore s _ trace hmem]
  exact ⟨rfl, rfl, hcode s, hn, hwaits⟩

/-- START clears the sleep bit of PWR_MGMT_1 (R153). -/
theorem start_plainEffect : PlainEffect .start 2 1
    (fun s => { s.cleared with
      run := true, lstate := lstateAfterStart s.lstate, cc := .ok, errinfo := 0, busy := false, settleTimer := 0 })
    (fun s => memUpdate s.env.sensor 0x6B (rmwByte · sleepBit 0x00)) := by
  intro s bursts rest hlength h hplain hmem
  match bursts, hlength with
  | [b0, b1], _ =>
    have hexec := startClearsSleepBit s b0 b1 rest h
    simp only [deviceRead_plain hplain, deviceWrite_plain hplain, ← lstateAfterStart_eq, ← rmwByte_clearSleepBit]
      at hexec
    exact ⟨_, rfl, rfl, hexec⟩

/-- STOP sets the sleep bit of PWR_MGMT_1 (R154). -/
theorem stop_plainEffect : PlainEffect .stop 2 1
    (fun s => { s.cleared with
      run := false, lstate := lstateAfterStop s.lstate, cc := .ok, errinfo := 0, busy := false, settleTimer := 0 })
    (fun s => memUpdate s.env.sensor 0x6B (rmwByte · 0x00 sleepBit)) := by
  intro s bursts rest hlength h hplain hmem
  match bursts, hlength with
  | [b0, b1], _ =>
    have hexec := stopSetsSleepBit s b0 b1 rest h
    simp only [deviceRead_plain hplain, deviceWrite_plain hplain, ← lstateAfterStop_eq, ← rmwByte_setSleepBit]
      at hexec
    exact ⟨_, rfl, rfl, hexec⟩

/-- The memory after INIT with the requested ranges `a` and `g`: PWR_MGMT_1 holds the byte WAKE writes, and the range
fields hold the requested ranges (R152). -/
def initMemory (m : Memory) (a g : RangeEnum) : Memory :=
  memUpdate (memUpdate (memUpdate m 0x6B fun _ => wakeByte) 0x1C (rmwByte · rangeMask (rangeBits a))) 0x1B
    (rmwByte · rangeMask (rangeBits g))

theorem initMemory_wf {m : Memory} (a g : RangeEnum) (hm : Memory.wf m = true) : Memory.wf (initMemory m a g) = true :=
  memUpdate_wf _ _ (memUpdate_wf _ _ (memUpdate_wf _ _ hm))

/-- A second INIT finds in each register the byte it writes. -/
theorem initMemory_initMemory {m : Memory} (a g : RangeEnum) (hm : Memory.wf m = true) :
    initMemory (initMemory m a g) a g = initMemory m a g := by
  have hm1 := memUpdate_wf 0x6B (fun _ => wakeByte) hm
  have hm2 := memUpdate_wf 0x1C (rmwByte · rangeMask (rangeBits a)) hm1
  have hwf := initMemory_wf a g hm
  have hpower : memByte (initMemory m a g) (0x6B : Byte).toNat = wakeByte := by
    rw [initMemory, memByte_memUpdate_other _ _ (by decide), memByte_memUpdate_other _ _ (by decide),
      memByte_memUpdate_same _ _ hm]
  have haccel : rmwByte (memByte (initMemory m a g) (0x1C : Byte).toNat) rangeMask (rangeBits a) =
      memByte (initMemory m a g) (0x1C : Byte).toNat := by
    rw [initMemory, memByte_memUpdate_other _ _ (by decide), memByte_memUpdate_same _ _ hm1, rmwByte_rmwByte]
  have hgyro : rmwByte (memByte (initMemory m a g) (0x1B : Byte).toNat) rangeMask (rangeBits g) =
      memByte (initMemory m a g) (0x1B : Byte).toNat := by
    rw [initMemory, memByte_memUpdate_same _ _ hm2, rmwByte_rmwByte]
  rw [initMemory.eq_def (initMemory m a g), memUpdate_of_fixed hwf hpower.symm, memUpdate_of_fixed hwf haccel,
    memUpdate_of_fixed hwf hgyro]

/-- The range field read back is the one written (R147, R148). -/
theorem extractLsb'_rmwByte (old : Byte) (r : RangeEnum) :
    (rmwByte old rangeMask (rangeBits r)).extractLsb' 3 2 = r := rangeField_rmwByte old r

/-- INIT reads back the ranges it asked for (R152). -/
theorem init_plainEffect : PlainEffect .init 9 4
    (fun s => { s.cleared with
      acc := readBackCache .accel s.reqA s.reqA, gyr := readBackCache .gyro s.reqG s.reqG
      lstate := .configured, cc := .ok, errinfo := 0, busy := false, settleTimer := 0 })
    (fun s => initMemory s.env.sensor s.reqA s.reqG) := by
  intro s bursts rest hlength h hplain hmem
  match bursts, hlength with
  | [b0, b1, b2, b3, b4, b5, b6, b7, b8], _ =>
    have hm1 := memStore_wf 0x6B 0x01 hmem
    have hm2 (v : Byte) := memStore_wf 0x1C v hm1
    have hexec := initRunsFullSequence s b0 b1 b2 b3 b4 b5 b6 b7 b8 rest h
    simp only [deviceRead_plain hplain, deviceWrite_plain hplain, memStore_memStore _ _ _ hmem, ← rmwByte_rangeMask,
      memByte_memStore_same _ _ hm1, memByte_memStore_same _ _ (hm2 _), extractLsb'_rmwByte, -BitVec.reduceToNat]
      at hexec
    exact ⟨_, rfl, rfl, hexec⟩

/-- Settles O54: START, STOP and INIT by their effects under DEV_PLAIN, each of which changes nothing when made again. -/
theorem startStopIdempotent : Obligations.StartStopIdempotent := by
  intro i s t u bursts rest hi hlength h hplain hmem ht hu
  obtain rfl | rfl | rfl := hi
  · exact start_plainEffect.twice (fun _ => rfl) (fun s _ _ => ⟨[], by cases s.lstate <;> rfl⟩)
      (fun _ => memUpdate_wf _ _) (fun _ _ _ => memUpdate_rmwByte_twice 0x6B sleepBit 0x00) hlength h hplain hmem ht hu
  · exact stop_plainEffect.twice (fun _ => rfl) (fun s _ _ => ⟨[], by cases s.lstate <;> rfl⟩)
      (fun _ => memUpdate_wf _ _) (fun _ _ _ => memUpdate_rmwByte_twice 0x6B 0x00 sleepBit) hlength h hplain hmem ht hu
  · exact init_plainEffect.twice (fun _ => rfl) (fun _ _ _ => ⟨[], rfl⟩) (fun _ => initMemory_wf _ _)
      (fun _ _ _ => initMemory_initMemory _ _) hlength h hplain hmem ht hu

end Sys2Proof.Machine
end

section
/-! PROOFS. The scale a measurement command uses (30_encoding.md R96; 42_measurement.md R188, R194): when there is none,
and that it is the one of the range the sensor holds. -/

namespace Sys2Proof.Machine

/-- A selector without a scale is a cached one whose valid bit is 0 or which holds no value (R188). -/
theorem cached_of_scaleOf_eq_none {s : State} {sel : ScaleSel} (h : scaleOf s sel = none) :
    ∃ sensor, sel = .cached sensor ∧ ((s.cache sensor).valid = false ∨ (s.cache sensor).scale = none) := by
  cases sel with
  | table sensor r => cases h
  | cached sensor =>
    refine ⟨sensor, rfl, ?_⟩
    cases hvalid : (s.cache sensor).valid with
    | false => exact .inl rfl
    | true => exact .inr (by simpa [scaleOf, hvalid] using h)

/-- The commands that use a cached scale (R188, R190, R191). -/
theorem decode_of_scaleSel_cached {i : Instr} {sensor : Sensor} (h : scaleSel i = some (.cached sensor)) :
    (∃ addr, i = .rdtriple addr (.cached sensor)) ∨ (i = .getacc ∧ sensor = .accel) ∨
      (i = .getgyro ∧ sensor = .gyro) := by
  cases i with
  | rdtriple addr => cases h; exact .inl ⟨addr, rfl⟩
  | getacc => cases h; exact .inr (.inl ⟨rfl, rfl⟩)
  | getgyro => cases h; exact .inr (.inr ⟨rfl, rfl⟩)
  | _ => cases h

/-- Settles O17: of the ways a command can end, NO_SCALE is the one in which its selector names no scale. -/
theorem noScaleOnlyForDecode : Obligations.NoScaleOnlyForDecode := by
  intro i s t h hidle hcode
  cases commandEnd_of_exec h with
  | ok | illegal | aborted => cases hcode
  | noScale hsel hnone =>
    obtain ⟨sensor, rfl, hcache⟩ := cached_of_scaleOf_eq_none hnone
    exact ⟨rfl, rfl, rfl, sensor, hcache, decode_of_scaleSel_cached hsel⟩
  | hung hu ht =>
    obtain ⟨_, _, _, rfl⟩ := hu.frame
    cases ht
    cases hidle

/-- A range-set operation under DEV_PLAIN with its three transactions answered as successes stores the range asked for,
in the register and in the cache (R148). -/
theorem setRangeOp_plain (sensor : Sensor) (r : RangeEnum) {s : State} {b0 b1 b2 : Burst} {rest : List Reply}
    (hplain : s.env.device = .plain) (hmem : Memory.wf s.env.sensor = true)
    (h : s.env.replies = .ok b0 :: .ok b1 :: .ok b2 :: rest) :
    ∃ t, setRangeOp sensor r s = .go r (storeReadBack sensor r r t) ∧ t.env = { s.env with
      sensor := memUpdate s.env.sensor (cfgAddr sensor) (rmwByte · rangeMask (rangeBits r)), replies := rest } := by
  have hgo := setRangeOp_ok (sensor := sensor) (r := r) h
  simp only [deviceRead_plain hplain, deviceWrite_plain hplain, memByte_memStore_same _ _ hmem, rangeField_rmwByte]
    at hgo
  exact ⟨_, hgo, rfl⟩

/-- A read-back of the range asked for is no mismatch (R28, R148). -/
theorem readBackCache_self (sensor : Sensor) (r : RangeEnum) : readBackCache sensor r r =
    { range := some r, scale := some (scaleTable sensor r), valid := true, mism := false } := by
  simp [readBackCache]

/-- SETRANGE under DEV_PLAIN with its three transactions answered as successes (R149). -/
theorem exec_setrange_plain (sensor : Sensor) (r : RangeEnum) {s : State} {b0 b1 b2 : Burst} {rest : List Reply}
    (hplain : s.env.device = .plain) (hmem : Memory.wf s.env.sensor = true)
    (h : s.env.replies = .ok b0 :: .ok b1 :: .ok b2 :: rest) :
    ∃ t, exec (.setrange sensor r) s = .next t ∧ t.cache sensor = readBackCache sensor r r ∧ t.env = { s.env with
      sensor := memUpdate s.env.sensor (cfgAddr sensor) (rmwByte · rangeMask (rangeBits r)), replies := rest } := by
  obtain ⟨t, hgo, henv⟩ := setRangeOp_plain sensor r (s := accept s) hplain hmem h
  refine ⟨_, exec_of_go (i := .setrange sensor r) rfl (Flow.andThen_of_go hgo _), ?_, ?_⟩
  · cases sensor <;> rfl
  · cases sensor <;> exact henv

/-- GETRANGE under DEV_PLAIN with its transaction answered as a success: RES is the range field the register holds
(R150). -/
theorem exec_getrange_plain (sensor : Sensor) {s : State} {b : Burst} {rest : List Reply}
    (hplain : s.env.device = .plain) (h : s.env.replies = .ok b :: rest) :
    ∃ u, exec (.getrange sensor) s = .next u ∧
      u.res = some ((rangeField (memByte s.env.sensor (cfgAddr sensor).toNat)).setWidth 8) ∧
      u.cache sensor = s.cache sensor := by
  have hbody := Flow.andThen_of_go (getRangeOp_ok (sensor := sensor) (s := accept s) h) fun e s =>
    .go () (setRes (e.setWidth 8) s)
  refine ⟨_, exec_of_go (i := .getrange sensor) rfl hbody, ?_, ?_⟩
  · rw [← deviceRead_plain hplain _ rest (cfgAddr sensor) b]
    rfl
  · cases sensor <;> rfl

/-- Settles O55: SETRANGE leaves the range asked for in the register and its scale in the cache, and GETRANGE reads the
one and keeps the other. -/
theorem scaleMatchesRange : Obligations.ScaleMatchesRange := by
  intro sensor r s b0 b1 b2 b3 rest hplain hmem h
  obtain ⟨t, ht, hcache, henv⟩ := exec_setrange_plain sensor r hplain hmem h
  obtain ⟨u, hu, hres, hkept⟩ := exec_getrange_plain sensor (s := t) (by rw [henv]; exact hplain)
    (congrArg Env.replies henv)
  rw [readBackCache_self] at hcache
  refine ⟨t, u, ht, hu, hcache, ?_, hkept, ?_⟩
  · rw [hres, henv, memByte_memUpdate_same _ _ hmem, rangeField_rmwByte]
  · simp [scaleOf, hkept, hcache]

end Sys2Proof.Machine
end

section
/-! PROOFS. The arithmetic of the measurement decoder (42_measurement.md R180 to R186): samples as byte pairs, and the
outputs as exact integers, their bounds, and the absence of rounding ties. -/

namespace Sys2Proof.Machine

/-! ### Samples (R180, R181) -/

/-- A sample as a number without sign. -/
theorem decode16_toNat (hi lo : Byte) : (decode16 hi lo).toNat = hi.toNat * 256 + lo.toNat :=
  toNat_append_byte hi lo

/-- The bytes of a sample as numbers. -/
theorem encode16_toNat (v : Sample) :
    (encode16 v).1.toNat = v.toNat / 256 ∧ (encode16 v).2.toNat = v.toNat % 256 := by
  simp only [encode16, BitVec.extractLsb'_toNat, Nat.shiftRight_eq_div_pow]
  omega

/-- The number without sign of a sample `v`, which the spec writes `v` or `v + 65536` (R181). -/
theorem sample_toNat (v : Sample) : (v.toNat : Int) = if 0 ≤ v.toInt then v.toInt else v.toInt + 65536 := by
  have hlt := v.isLt
  have hint := BitVec.toInt_eq_toNat_cond v
  split at hint <;> split <;> omega

/-- Settles O56: each function by the number it answers; both round trips are division with remainder by 256. -/
theorem sampleDecoding : Obligations.SampleDecoding := by
  refine ⟨fun hi lo => ?_, fun v => ?_, fun v => ?_, fun hi lo => ?_⟩
  · rw [BitVec.toInt_eq_toNat_cond, decode16_toNat]
    split <;> split <;> omega
  · obtain ⟨hhi, hlo⟩ := encode16_toNat v
    rw [← sample_toNat]
    omega
  · obtain ⟨hhi, hlo⟩ := encode16_toNat v
    apply BitVec.eq_of_toNat_eq
    rw [decode16_toNat]
    omega
  · obtain ⟨hhi, hlo⟩ := encode16_toNat (decode16 hi lo)
    rw [decode16_toNat] at hhi hlo
    exact Prod.ext (BitVec.eq_of_toNat_eq (by dsimp only; omega)) (BitVec.eq_of_toNat_eq (by dsimp only; omega))

/-! ### Rounding (00_scope.md R10) -/

/-- The integer `k` with `k - 1/2 ≤ n / d < k + 1/2` is `rn n d`. -/
theorem rn_eq_of_bounds {n d k : Int} (hd : 0 < d) (hlo : (2 * k - 1) * d ≤ 2 * n) (hhi : 2 * n < (2 * k + 1) * d) :
    rn n d = k := by
  apply Int.le_antisymm
  · exact Int.le_of_lt_add_one (Int.ediv_lt_of_lt_mul (by omega) (by linarith))
  · exact Int.le_ediv_of_mul_le (by omega) (by linarith)

/-- The division is exact: nothing is rounded. -/
theorem rn_mul (k : Int) {d : Int} (hd : 0 < d) : rn (k * d) d = k :=
  rn_eq_of_bounds hd (by linarith) (by linarith)

theorem rn_mono {n n' d : Int} (hd : 0 < d) (h : n ≤ n') : rn n d ≤ rn n' d :=
  Int.ediv_le_ediv (by omega) (by omega)

/-- Where an odd multiple of `n` is a multiple of `d`, `n / d` is no odd multiple of one half. -/
theorem ne_tie_of_dvd {n d c : Int} (hd : d ≠ 0) (hc : Odd c) (hdvd : d ∣ c * n) (k : Int) :
    2 * n ≠ (2 * k + 1) * d := by
  intro htie
  obtain ⟨m, hm⟩ := hdvd
  have heven : c * (2 * k + 1) = 2 * m := mul_right_cancel₀ hd (by linear_combination c * -htie + 2 * hm)
  have hodd : Odd (c * (2 * k + 1)) := hc.mul (odd_two_mul_add_one k)
  exact Int.not_even_iff_odd.2 hodd (heven ▸ even_two_mul m)

/-- Where there is no tie, an integer within half a unit of the quotient is the rounded one. -/
theorem eq_rn_of_within_half {n d k : Int} (hd : 0 < d) (htie : 2 * n ≠ (2 * k + 1) * d)
    (hlo : -d ≤ 2 * (k * d - n)) (hhi : 2 * (k * d - n) ≤ d) : k = rn n d :=
  (rn_eq_of_bounds hd (by linarith) (lt_of_le_of_ne (by linarith) htie)).symm

/-! ### The scale tables (R24) -/

theorem scaleTable_pos (sensor : Sensor) (e : RangeEnum) : (0 : Int) < (scaleTable sensor e).toNat := by
  cases sensor <;> (revert e; decide)

/-- 655360 is each accelerometer divisor, 10 * 2^(14 - e), times a power of two. -/
theorem pow_mul_accTable (e : RangeEnum) : (2 : Int) ^ (2 + e.toNat) * (accTable e).toNat = 655360 := by
  revert e; decide

/-- 655360 over a divisor of the tables has, in lowest terms, the denominator 1, 41 or 131 (R185). -/
theorem scaleTable_dvd (sensor : Sensor) (e : RangeEnum) :
    ((scaleTable sensor e).toNat : Int) ∣ 41 * 131 * 655360 := by
  cases sensor <;> (revert e; decide)

/-- The accelerometer outputs of the least and of the greatest sample (R184). -/
theorem accTable_ends (e : RangeEnum) : -1048576 ≤ rn (-32768 * 655360) (accTable e).toNat ∧
    rn (32767 * 655360) (accTable e).toNat ≤ 1048544 := by
  revert e; decide

/-- The gyroscope outputs of the least and of the greatest sample (R184). -/
theorem gyrTable_ends (e : RangeEnum) : -130944125 ≤ rn (-32768 * 655360) (gyrTable e).toNat ∧
    rn (32767 * 655360) (gyrTable e).toNat ≤ 130940129 := by
  revert e; decide

/-! ### The outputs (R183 to R186) -/

/-- A sample is a signed 16-bit integer. -/
theorem sample_bounds (raw : Sample) : -32768 ≤ raw.toInt ∧ raw.toInt ≤ 32767 :=
  ⟨BitVec.le_toInt raw, Int.le_of_lt_add_one BitVec.toInt_lt⟩

/-- The outputs with one divisor lie between those of the least and of the greatest sample. -/
theorem q16Int_bounds (raw : Sample) (sensor : Sensor) (e : RangeEnum) :
    rn (-32768 * 655360) (scaleTable sensor e).toNat ≤ q16Int raw (scaleTable sensor e) ∧
      q16Int raw (scaleTable sensor e) ≤ rn (32767 * 655360) (scaleTable sensor e).toNat := by
  obtain ⟨hlo, hhi⟩ := sample_bounds raw
  exact ⟨rn_mono (scaleTable_pos sensor e) (by omega), rn_mono (scaleTable_pos sensor e) (by omega)⟩

/-- The temperature outputs lie between those of the least and of the greatest sample. -/
theorem qtempInt_bounds (raw : Sample) : rn ((5 * -32768 + 62101) * 65536) 1700 ≤ qtempInt raw ∧
    qtempInt raw ≤ rn ((5 * 32767 + 62101) * 65536) 1700 := by
  obtain ⟨hlo, hhi⟩ := sample_bounds raw
  exact ⟨rn_mono (by decide) (by omega), rn_mono (by decide) (by omega)⟩

/-- A 32-bit word holds an output that lies between two ends within bounds that fit. -/
theorem toInt_ofInt_of_ends {k least greatest lo hi : Int} (hk : least ≤ k ∧ k ≤ greatest)
    (hends : lo ≤ least ∧ greatest ≤ hi) (hlo : -2147483648 ≤ lo) (hhi : hi < 2147483648) :
    (BitVec.ofInt 32 k).toInt = k ∧ lo ≤ k ∧ k ≤ hi := by
  have hbounds : lo ≤ k ∧ k ≤ hi := ⟨hends.1.trans hk.1, hk.2.trans hends.2⟩
  exact ⟨BitVec.toInt_ofInt_eq_self (by decide) (by omega) (by omega), hbounds⟩

/-- Settles O59: rounding is monotone, so the least and the greatest sample bound the outputs. -/
theorem outputsNeverOverflow : Obligations.OutputsNeverOverflow := by
  refine ⟨fun raw e => ?_, fun raw e => ?_, fun raw => ?_⟩
  · exact toInt_ofInt_of_ends (q16Int_bounds raw .accel e) (accTable_ends e) (by decide) (by decide)
  · exact toInt_ofInt_of_ends (q16Int_bounds raw .gyro e) (gyrTable_ends e) (by decide) (by decide)
  · exact toInt_ofInt_of_ends (qtempInt_bounds raw) (by decide) (by decide) (by decide)

/-- Settles O57: 655360 is the divisor times a power of two, so the division is exact. -/
theorem accelerometerExact : Obligations.AccelerometerExact := by
  intro raw e
  obtain ⟨hfits, -⟩ := outputsNeverOverflow.1 raw e
  rw [hfits, q16Int, ← pow_mul_accTable e, ← Int.mul_assoc]
  exact rn_mul _ (scaleTable_pos .accel e)

/-- Settles O60: an odd multiple of each dividend, 41 * 131 times a sample's and 425 times the temperature's, is a
multiple of the divisor, and a half would need an even denominator (R185). -/
theorem noRoundingTies : Obligations.NoRoundingTies := by
  refine ⟨fun raw sensor e k => ?_, fun raw k => ?_⟩
  · have hpos := scaleTable_pos sensor e
    have hdvd : ((scaleTable sensor e).toNat : Int) ∣ 41 * 131 * (raw.toInt * 655360) := by
      rw [Int.mul_left_comm]
      exact (scaleTable_dvd sensor e).mul_left _
    have htie := ne_tie_of_dvd hpos.ne' (by decide) hdvd k
    exact ⟨htie, eq_rn_of_within_half hpos htie⟩
  · have hdvd : (1700 : Int) ∣ 425 * ((5 * raw.toInt + 62101) * 65536) :=
      ⟨(5 * raw.toInt + 62101) * 16384, by ring⟩
    have htie := ne_tie_of_dvd (by decide) (by decide) hdvd k
    exact ⟨htie, eq_rn_of_within_half (by decide) htie⟩

end Sys2Proof.Machine
end

section
/-! PROOFS. Every command completes or stops at a transaction that never returned (60_exceptions.md R210, R228): the
script of replies is counted down, one answer for each transaction. -/

namespace Sys2Proof.Machine

/-- The script of replies answers the next `n` transactions, and none of its answers is 'never'. -/
def Env.Answers (n : Nat) (e : Env) : Prop := n ≤ e.replies.length ∧ ∀ landed, .never landed ∉ e.replies

/-- A transaction that the script answers returns, and the script answers those after it. -/
theorem Env.Answers.next {n : Nat} {e : Env} (h : e.Answers (n + 1)) :
    (∀ landed, (nextReply e).1 ≠ .never landed) ∧ (nextReply e).2.Answers n := by
  obtain ⟨hlen, hnever⟩ := h
  cases hreplies : e.replies with
  | nil => simp [hreplies] at hlen
  | cons r rest =>
    rw [nextReply_of_cons hreplies]
    simp only [hreplies, List.length_cons, Nat.add_le_add_iff_right, List.mem_cons, not_or] at hlen hnever
    exact ⟨fun landed h => (hnever landed).1 h.symm, hlen, fun landed => (hnever landed).2⟩

/-- Only the replies count. -/
theorem Env.Answers.congr {n : Nat} {e e' : Env} (h : e.Answers n) (hreplies : e'.replies = e.replies) :
    e'.Answers n := by
  rw [Env.Answers, hreplies]; exact h

/-- The last event of the trace is a transaction that never returned. -/
def EndsNever (t : List BusEvent) : Prop :=
  ∃ before device addr,
    (∃ count, t = before ++ [.read device addr count .never]) ∨
    (∃ value, t = before ++ [.write device addr value .never])

/-- Under the assumption `p` the flow never hangs, and where it goes on the script still answers `n` transactions; if it
hangs, it does so at a transaction that never returned. -/
def Flow.HangsUnless {α : Type} (p : Prop) (n : Nat) (r : Flow α) : Prop :=
  r.Sat (fun _ t => p → t.env.Answers n) (fun _ => True) (fun _ _ => True) (fun t => ¬p ∧ EndsNever t.trace)

section Operations
variable {p : Prop} {n : Nat} {s : State}

theorem Flow.HangsUnless.andThen {α β : Type} {m : Nat} {r : Flow α} {next : α → State → Flow β}
    (hr : r.HangsUnless p m) (hnext : ∀ a s, (p → s.env.Answers m) → (next a s).HangsUnless p n) :
    (r.andThen next).HangsUnless p n := Flow.Sat.andThen hr hnext

/-! The two primitives are followed by the answer drawn: `memRead_sat` and `memWrite_sat` do not say that a transaction
which hangs drew 'never'. -/

theorem memRead_hangsUnless (h : p → s.env.Answers (n + 1)) (addr : Byte) (count : Nat) :
    (memRead addr count s).HangsUnless p n := by
  unfold memRead
  split
  next hreply => exact fun hp => by simpa [hreply] using (h hp).next.2
  next => trivial
  next hreply =>
    exact ⟨fun hp => (h hp).next.1 _ (by rw [hreply]), s.trace, s.busAddr, addr, .inl ⟨count, rfl⟩⟩

theorem memWrite_hangsUnless (h : p → s.env.Answers (n + 1)) (addr v : Byte) :
    (memWrite addr v s).HangsUnless p n := by
  unfold memWrite
  split
  next hreply => exact fun hp => Env.Answers.congr (by simpa [hreply] using (h hp).next.2) (by simp)
  next => trivial
  next hreply =>
    exact ⟨fun hp => (h hp).next.1 _ (by rw [hreply]), s.trace, s.busAddr, addr, .inr ⟨v, rfl⟩⟩

theorem rmw_hangsUnless (h : p → s.env.Answers (n + 2)) (addr mask bits : Byte) :
    (rmw addr mask bits s).HangsUnless p n :=
  (memRead_hangsUnless h addr 1).andThen fun _ _ h1 => memWrite_hangsUnless h1 addr _

theorem getRangeOp_hangsUnless (h : p → s.env.Answers (n + 1)) (sensor : Sensor) :
    (getRangeOp sensor s).HangsUnless p n :=
  (memRead_hangsUnless h _ 1).andThen fun _ _ h1 => h1

theorem setRangeOp_hangsUnless (h : p → s.env.Answers (n + 3)) (sensor : Sensor) (r : RangeEnum) :
    (setRangeOp sensor r s).HangsUnless p n := by
  have hdrop : p → (dropCache sensor s).env.Answers (n + 3) := by simpa using h
  refine (rmw_hangsUnless hdrop _ _ _).andThen fun _ _ h1 => (getRangeOp_hangsUnless h1 sensor).andThen fun e t h2 => ?_
  simpa [Flow.HangsUnless, Flow.Sat] using h2

theorem resetBody_hangsUnless (h : p → s.env.Answers (n + 2)) : (resetBody s).HangsUnless p n :=
  (rmw_hangsUnless (s := dropCaches s) h _ _ _).andThen fun _ _ h1 => h1

theorem wakeBody_hangsUnless (h : p → s.env.Answers (n + 1)) : (wakeBody s).HangsUnless p n :=
  (memWrite_hangsUnless h _ _).andThen fun _ _ h1 => h1

theorem initBody_hangsUnless (h : p → s.env.Answers (n + 9)) : (initBody s).HangsUnless p n :=
  (resetBody_hangsUnless h).andThen fun _ _ h1 => (wakeBody_hangsUnless h1).andThen fun _ _ h2 =>
    (setRangeOp_hangsUnless h2 .accel _).andThen fun _ _ h3 => (setRangeOp_hangsUnless h3 .gyro _).andThen
      fun _ _ h4 => h4

theorem readTriple_hangsUnless (h : p → s.env.Answers (n + 1)) (addr : Byte) (sel : ScaleSel) :
    (readTriple addr sel s).HangsUnless p n :=
  Flow.HangsUnless.andThen (m := n + 1) (needScale_sat (fun _ _ => h) fun _ => trivial) fun _ _ h1 =>
    (memRead_hangsUnless h1 addr 6).andThen fun _ _ h2 => h2

theorem busScan_hangsUnless (h : p → s.env.Answers n) : (busScan s).HangsUnless p n :=
  busScan_sat fun _ _ henv _ hp => (h hp).congr (by simp [henv])

/-- The script suffices when it answers as many transactions as there are STEP values the command can report (R214). -/
theorem commandBody_hangsUnless {i : Instr} (h : p → s.env.Answers (busErrorSteps i)) :
    (commandBody i s).HangsUnless p 0 := by
  cases i with
  | bind => exact h
  | wrreg addr byte => exact memWrite_hangsUnless (s := managedWriteEffects addr s) h addr byte
  | rmw addr mask bits => exact rmw_hangsUnless (s := managedWriteEffects addr s) h addr mask bits
  | reset => exact resetBody_hangsUnless h
  | wake => exact wakeBody_hangsUnless h
  | setrange sensor r => exact (setRangeOp_hangsUnless h sensor r).andThen fun _ _ h1 => h1
  | getrange sensor => exact (getRangeOp_hangsUnless h sensor).andThen fun _ _ h1 => h1
  | init => exact initBody_hangsUnless h
  | start | stop => exact (rmw_hangsUnless h _ _ _).andThen fun _ _ h1 => h1
  | probe => exact busScan_hangsUnless h
  | rdtriple | getacc | getgyro => exact readTriple_hangsUnless h _ _
  | rdreg | chkid | gettemp => exact (memRead_hangsUnless h _ _).andThen fun _ _ h1 => h1

end Operations

theorem busErrorSteps_le_nine (i : Instr) : busErrorSteps i ≤ 9 := by
  cases i <;> simp [busErrorSteps]

/-- The end of a command that has not completed: it hangs (R228). -/
theorem finish_hung {p : Prop} {n : Nat} {r : Flow Unit} (h : r.HangsUnless p n) (hbusy : (finish r).busy = true) :
    ¬p ∧ EndsNever (finish r).trace := by
  cases r with
  | go | noScale | busError => cases hbusy
  | hung s => exact h

/-- Every command answers a next state, and one that has not completed hangs (R210, R228): it had no script of nine
answers that return, and it stopped at a transaction that never returned. -/
theorem exec_completes_or_endsNever (i : Instr) (s : State) :
    ∃ t, exec i s = .next t ∧ (t.busy = true → ¬s.env.Answers 9 ∧ EndsNever t.trace) := by
  cases hi : i.wellFormed with
  | false => exact ⟨_, exec_of_not_wellFormed hi s, nofun⟩
  | true =>
    have hbody : (commandBody i (accept s)).HangsUnless (s.env.Answers 9) 0 :=
      commandBody_hangsUnless fun ⟨hlen, hnever⟩ => ⟨(busErrorSteps_le_nine i).trans hlen, hnever⟩
    exact ⟨_, exec_of_wellFormed hi s, finish_hung hbody⟩

/-- Settles O13: a command that has not completed hangs, and with nine answers that return none does. -/
theorem commandsComplete : Obligations.CommandsComplete := by
  refine ⟨fun i s hlen hnever => ?completes, fun i s => ?hangs⟩
  case completes =>
    obtain ⟨t, hexec, hhung⟩ := exec_completes_or_endsNever i s
    exact ⟨t, hexec, Bool.eq_false_iff.2 fun hbusy => (hhung hbusy).1 ⟨hlen, hnever⟩⟩
  case hangs =>
    obtain ⟨t, hexec, hhung⟩ := exec_completes_or_endsNever i s
    exact ⟨t, hexec, fun hbusy => (hhung hbusy).2⟩

end Sys2Proof.Machine
end

section
/-! PROOFS. A command whose first transaction is a read that fails (60_exceptions.md R211, R219). -/

namespace Sys2Proof.Machine

/-- A read-modify-write ends at its read when that fails (R122, R123). -/
theorem rmw_readError {addr mask bits : Byte} {s t : State} {f : Failure} (h : memRead addr 1 s = .busError f t) :
    rmw addr mask bits s = .busError f t := Flow.andThen_of_busError h _

/-- RESET ends at its read when that fails, the caches dropped (R145). -/
theorem resetBody_readError {s t : State} {f : Failure} (h : memRead pwrMgmt1 1 (dropCaches s) = .busError f t) :
    resetBody s = .busError f t := Flow.andThen_of_busError (rmw_readError h) _

/-- A range-set operation ends at its first read when that fails, its cache dropped (R148). -/
theorem setRangeOp_readError {sensor : Sensor} {r : RangeEnum} {s t : State} {f : Failure}
    (h : memRead (cfgAddr sensor) 1 (dropCache sensor s) = .busError f t) :
    setRangeOp sensor r s = .busError f t := Flow.andThen_of_busError (rmw_readError h) _

/-- A range read ends at its read when that fails (R147). -/
theorem getRangeOp_readError {sensor : Sensor} {s t : State} {f : Failure}
    (h : memRead (cfgAddr sensor) 1 s = .busError f t) : getRangeOp sensor s = .busError f t :=
  Flow.andThen_of_busError h _

/-- Acceptance keeps the scale a selector names (R91, R188). -/
theorem scaleOf_accept (s : State) (sel : ScaleSel) : scaleOf (accept s) sel = scaleOf s sel :=
  scaleOf_congr sel rfl rfl

/-- A triple decode that has its scale ends at its burst when that fails (R189). -/
theorem readTriple_readError {addr : Byte} {sel : ScaleSel} {s t : State} {f : Failure}
    (hscale : (scaleOf s sel).isSome = true) (h : memRead addr 6 s = .busError f t) :
    readTriple addr sel s = .busError f t := by
  obtain ⟨d, hd⟩ := Option.isSome_iff_exists.1 hscale
  rw [readTriple, needScale, hd, Flow.andThen, h, Flow.andThen]

/-- The whole next state of a command whose body brings the registers to `u`, where at most the caches and LSTATE differ,
then makes a read, and ends there when the read fails. -/
theorem exec_of_firstRead_error {i : Instr} {s : State} (u : State) {addr : Byte} {n : Nat} {kind : BusErrorKind}
    {rest : List Reply} (h : s.env.replies = .error kind :: rest)
    (hbody : ∀ f t, memRead addr n u = .busError f t → commandBody i (accept s) = .busError f t)
    (hi : i.wellFormed = true := by rfl)
    (hu : u = { accept s with acc := u.acc, gyr := u.gyr, lstate := u.lstate } := by rfl) :
    exec i s = .next { s.cleared with
      acc := u.acc, gyr := u.gyr, lstate := .unknown, cc := .busError, errs := true, busy := false
      errinfo := (addr.setWidth 16 <<< 8) ||| ((kindCode kind).setWidth 16 <<< 5)
      env := { s.env with replies := rest }, trace := [.read s.busAddr addr n (.error kind)] } := by
  rw [hu] at hbody
  rw [exec_of_busError hi (hbody _ _ (memRead_error h)), abort_eq, ← errinfoWord_firstRead]
  rfl

/-- Settles O49: the body begins with a read, after the updates of the caches and LSTATE that its rule puts before it,
and what follows a failed read does not run. -/
theorem firstReadFailureAborts : Obligations.FirstReadFailureAborts := by
  intro i addr n acc gyr s kind rest hi h
  cases i with
  | bind | wrreg | wake | probe => exact hi.elim
  | rdreg a count =>
    obtain ⟨hcount, rfl, rfl, rfl, rfl⟩ := hi
    exact exec_of_firstRead_error (accept s) h (fun _ _ hread => Flow.andThen_of_busError hread _) hcount
  | rmw a mask bits =>
    obtain ⟨rfl, rfl, rfl, rfl⟩ := hi
    exact exec_of_firstRead_error (managedWriteEffects addr (accept s)) h fun _ _ hread => rmw_readError hread
  | reset =>
    obtain ⟨rfl, rfl, rfl, rfl⟩ := hi
    exact exec_of_firstRead_error (dropCaches (accept s)) h fun _ _ hread => resetBody_readError hread
  | init =>
    obtain ⟨rfl, rfl, rfl, rfl⟩ := hi
    exact exec_of_firstRead_error (dropCaches (accept s)) h fun _ _ hread =>
      Flow.andThen_of_busError (resetBody_readError hread) _
  | start | stop =>
    obtain ⟨rfl, rfl, rfl, rfl⟩ := hi
    exact exec_of_firstRead_error (accept s) h fun _ _ hread => Flow.andThen_of_busError (rmw_readError hread) _
  | setrange sensor r =>
    have hexec := exec_of_firstRead_error (i := .setrange sensor r) (dropCache sensor (accept s)) h
      (fun _ _ hread => Flow.andThen_of_busError (setRangeOp_readError hread) _) rfl (by cases sensor <;> rfl)
    cases sensor <;> obtain ⟨rfl, rfl, rfl, rfl⟩ := hi <;> exact hexec
  | getrange sensor =>
    have hexec := exec_of_firstRead_error (i := .getrange sensor) (accept s) h fun _ _ hread =>
      Flow.andThen_of_busError (getRangeOp_readError hread) _
    cases sensor <;> obtain ⟨rfl, rfl, rfl, rfl⟩ := hi <;> exact hexec
  | chkid | gettemp =>
    obtain ⟨rfl, rfl, rfl, rfl⟩ := hi
    exact exec_of_firstRead_error (accept s) h fun _ _ hread => Flow.andThen_of_busError hread _
  | rdtriple a sel =>
    obtain ⟨hscale, rfl, rfl, rfl, rfl⟩ := hi
    rw [← scaleOf_accept] at hscale
    exact exec_of_firstRead_error (accept s) h fun _ _ hread => readTriple_readError hscale hread
  | getacc | getgyro =>
    obtain ⟨hscale, rfl, rfl, rfl, rfl⟩ := hi
    rw [← scaleOf_accept] at hscale
    exact exec_of_firstRead_error (accept s) h fun _ _ hread => readTriple_readError hscale hread

end Sys2Proof.Machine
end

section
/-! PROOFS. The completions that make no transaction (60_exceptions.md R212, R213). -/

namespace Sys2Proof.Machine

/-- An idle block completes an illegal word it is presented (30_encoding.md R97). -/
theorem step_of_write_cmd_illegal {s : State} {w : Word} {why : DecodeError} {rest : List HostInput}
    (hidle : s.busy = false) (hinputs : s.inputs = .write cmdIndex w :: rest) (hdecode : decode w = .error why) :
    step s = .next (illegalCommand { s with inputs := rest }) := by
  simp [step, hostStep, hinputs, hostWrite, hidle, issueWord, hdecode]

/-- Settles O2: the step completes the word as illegal, which writes the completion registers alone. -/
theorem illegalWordCompletesIllegalCmd : Obligations.IllegalWordCompletesIllegalCmd := by
  intro s w why rest hidle hinputs hdecode
  rw [step_of_write_cmd_illegal hidle hinputs hdecode, illegalCommand_eq]
  rfl

/-- The whole next state of a triple decode whose selector names no scale (R188, R213). -/
theorem exec_rdtriple_noScale {addr : Byte} {sel : ScaleSel} {s : State} (h : scaleOf s sel = none) :
    exec (.rdtriple addr sel) s = .next { s.cleared with
      cc := .noScale, errs := true, errinfo := 0, busy := false } := by
  have hbody : readTriple addr sel (accept s) = .noScale (accept s) := by
    rw [readTriple, needScale, scaleOf_accept, h, Flow.andThen]
  rw [exec_rdtriple, runCommand, hbody, finish, complete, decide_eq_true nofun, Bool.or_true]
  rfl

/-- Settles O47: a cached selector names no scale while the valid bit is 0; GETACC and GETGYRO are triple decodes. -/
theorem noScaleWithoutValidBit : Obligations.NoScaleWithoutValidBit := by
  intro addr sensor s hvalid t
  have hnone (addr : Byte) : exec (.rdtriple addr (.cached sensor)) s = .next t :=
    exec_rdtriple_noScale (by simp [scaleOf, hvalid])
  refine ⟨hnone addr, ?_, ?_⟩ <;> rintro rfl
  · exact (exec_getacc s).trans (hnone _)
  · exact (exec_getgyro s).trans (hnone _)

end Sys2Proof.Machine
end

section
/-! PROOFS. The settle waits of a command, counted (20_memory.md R79, 70_reset_and_hazards.md R255). -/

namespace Sys2Proof.Machine

/-- The traces of the commands hold as many settle waits as writes that succeeded. -/
theorem CommandTrace.waits_eq_writes {d : BusAddr} {t : List BusEvent} (h : CommandTrace d t) :
    t.countP BusEvent.isSettle = t.countP BusEvent.owesSettle := by
  induction h with
  | nil => rfl
  | read _ addr n r ih => simpa [BusEvent.isSettle, BusEvent.owesSettle] using ih
  | write _ addr v ih => simpa [List.countP_cons, BusEvent.isSettle, BusEvent.owesSettle] using ih
  | failedWrite _ addr v hr ih => simpa [BusEvent.isSettle, BusEvent.owesSettle, hr] using ih
  | scan _ present ih => simpa [BusEvent.isSettle, BusEvent.owesSettle] using ih

/-- A command is in progress and has waited `n` times. -/
def Waited (n : Nat) (s : State) : Prop := s.busy = true ∧ s.trace.countP BusEvent.isSettle = n

/-- If the flow goes on it has waited `n` times; if a transaction never returned, the command is still in progress. -/
def Flow.Waits {α : Type} (n : Nat) (r : Flow α) : Prop :=
  r.Sat (fun _ => Waited n) (fun _ => True) (fun _ _ => True) (fun t => t.busy = true)

section Operations
variable {n : Nat} {s : State}

theorem Flow.Waits.andThen {α β : Type} {m : Nat} {r : Flow α} {next : α → State → Flow β} (hr : r.Waits m)
    (hnext : ∀ a s, Waited m s → (next a s).Waits n) : (r.andThen next).Waits n := Flow.Sat.andThen hr hnext

/-- A read does not wait (00_scope.md R11). -/
theorem memRead_waits (h : Waited n s) (addr : Byte) (count : Nat) : (memRead addr count s).Waits n :=
  memRead_sat (fun _ _ _ => ⟨h.1, by simpa [BusEvent.isSettle] using h.2⟩) (fun _ _ _ => trivial) fun _ _ => h.1

/-- A write that goes on has waited once (R79). -/
theorem memWrite_waits (h : Waited n s) (addr v : Byte) : (memWrite addr v s).Waits (n + 1) :=
  memWrite_sat (fun _ _ => ⟨h.1, by simpa [List.countP_cons, BusEvent.isSettle] using h.2⟩) (fun _ _ _ => trivial)
    fun _ _ _ => h.1

theorem busScan_waits (h : Waited n s) : (busScan s).Waits n :=
  busScan_sat fun _ _ _ _ => ⟨h.1, by simpa [BusEvent.isSettle] using h.2⟩

theorem rmw_waits (h : Waited n s) (addr mask bits : Byte) : (rmw addr mask bits s).Waits (n + 1) :=
  (memRead_waits h addr 1).andThen fun _ _ h1 => memWrite_waits h1 addr _

theorem getRangeOp_waits (h : Waited n s) (sensor : Sensor) : (getRangeOp sensor s).Waits n :=
  (memRead_waits h _ 1).andThen fun _ _ h1 => h1

theorem setRangeOp_waits (h : Waited n s) (sensor : Sensor) (r : RangeEnum) : (setRangeOp sensor r s).Waits (n + 1) := by
  have hdrop : Waited n (dropCache sensor s) := by simpa [Waited] using h
  refine (rmw_waits hdrop _ _ _).andThen fun _ _ h1 => (getRangeOp_waits h1 sensor).andThen fun e t h2 => ?_
  simpa [Flow.Waits, Flow.Sat, Waited] using h2

theorem resetBody_waits (h : Waited n s) : (resetBody s).Waits (n + 1) :=
  (rmw_waits (s := dropCaches s) h _ _ _).andThen fun _ _ h1 => h1

theorem wakeBody_waits (h : Waited n s) : (wakeBody s).Waits (n + 1) :=
  (memWrite_waits h _ _).andThen fun _ _ h1 => h1

theorem initBody_waits (h : Waited n s) : (initBody s).Waits (n + 4) :=
  (resetBody_waits h).andThen fun _ _ h1 => (wakeBody_waits h1).andThen fun _ _ h2 =>
    (setRangeOp_waits h2 .accel _).andThen fun _ _ h3 => (setRangeOp_waits h3 .gyro _).andThen fun _ _ h4 => h4

theorem readTriple_waits (h : Waited n s) (addr : Byte) (sel : ScaleSel) : (readTriple addr sel s).Waits n :=
  Flow.Waits.andThen (m := n) (needScale_sat (fun _ _ => h) fun _ => trivial) fun _ _ h1 =>
    (memRead_waits h1 addr 6).andThen fun _ _ h2 => h2

end Operations

/-- The body of a command that goes on to its end has waited as often as the table of R255 says. -/
theorem commandBody_waits {s : State} (h : Waited 0 s) (i : Instr) : (commandBody i s).Waits (settleWaits i) := by
  cases i with
  | bind => exact h
  | wrreg addr byte => exact memWrite_waits (s := managedWriteEffects addr s) h addr byte
  | rmw addr mask bits => exact rmw_waits (s := managedWriteEffects addr s) h addr mask bits
  | reset => exact resetBody_waits h
  | wake => exact wakeBody_waits h
  | setrange sensor r => exact (setRangeOp_waits h sensor r).andThen fun _ _ h1 => h1
  | getrange sensor => exact (getRangeOp_waits h sensor).andThen fun _ _ h1 => h1
  | init => exact initBody_waits h
  | start | stop => exact (rmw_waits h _ _ _).andThen fun _ _ h1 => h1
  | probe => exact busScan_waits h
  | rdtriple | getacc | getgyro => exact readTriple_waits h _ _
  | rdreg | chkid | gettemp => exact (memRead_waits h _ _).andThen fun _ _ h1 => h1

/-- Only a flow that goes on completes OK (R210), and completion does not wait. -/
theorem finish_waits {n : Nat} {r : Flow Unit} (h : r.Waits n) (hidle : (finish r).busy = false)
    (hcode : (finish r).cc = .ok) : (finish r).trace.countP BusEvent.isSettle = n := by
  cases r with
  | go _ s => exact h.2
  | noScale | busError => cases hcode
  | hung s => exact absurd (h.symm.trans hidle) (by decide)

/-- The waits of a command that completes OK (R255): a legal one ends by `finish`, an illegal one does not complete OK. -/
theorem waits_of_exec_ok {i : Instr} {s t : State} (h : exec i s = .next t) (hidle : t.busy = false)
    (hcode : t.cc = .ok) : t.trace.countP BusEvent.isSettle = settleWaits i := by
  cases hi : i.wellFormed with
  | false =>
    cases h.symm.trans (exec_of_not_wellFormed hi s)
    cases hcode
  | true =>
    cases h.symm.trans (exec_of_wellFormed hi s)
    exact finish_waits (commandBody_waits ⟨accept_busy s, rfl⟩ i) hidle hcode

/-- Settles O26: the waits counted along the body of the command, and along the trace of every command. -/
theorem settleWaitsPerCommand : Obligations.SettleWaitsPerCommand :=
  fun _ _ _ h => ⟨waits_of_exec_ok h, (commandTrace_of_exec h).waits_eq_writes⟩

end Sys2Proof.Machine
end

section
/-! PROOFS. Block reset of a block whose WRREG it cuts short (70_reset_and_hazards.md R240, R241). -/

namespace Sys2Proof.Machine

/-- A write whose answer is scripted as one that never comes (60_exceptions.md R228). -/
theorem memWrite_never {addr v : Byte} {s : State} {landed : Bool} {rest : List Reply}
    (h : s.env.replies = .never landed :: rest) :
    memWrite addr v s = .hung ({ s with
      env := deviceCutWrite landed { s.env with replies := rest } addr v }.record (.write s.busAddr addr v .never)) := by
  simp [memWrite, nextReply_of_cons h]

/-- The whole next state of a WRREG whose write never returns: BUSY stays 1 (40_register_access.md R120, R228). -/
theorem exec_wrreg_never {addr byte : Byte} {s : State} {landed : Bool} {rest : List Reply}
    (h : s.env.replies = .never landed :: rest) :
    exec (.wrreg addr byte) s = .next { managedWriteEffects addr s.cleared with
      busy := true, env := deviceCutWrite landed { s.env with replies := rest } addr byte
      trace := [.write s.busAddr addr byte .never] } := by
  have hbody := memWrite_never (addr := addr) (v := byte) (s := managedWriteEffects addr (accept s)) h
  rw [exec_of_wellFormed rfl, runCommand, commandBody, hbody]
  rfl

/-- Settles O12: block reset keeps what is not the block's; the write it cuts short hangs, and has landed or has not. -/
theorem blockResetRestoresRegisters : Obligations.BlockResetRestoresRegisters := by
  refine ⟨fun s rest h => step_of_blockReset h, fun s w addr v landed replies rest hidle hdecode hreplies hinputs => ?_⟩
  have hcut := exec_wrreg_never (addr := addr) (byte := v) (s := { s with inputs := .blockReset :: rest }) hreplies
  exact ⟨_, (step_of_write_cmd hidle hinputs hdecode).trans hcut, rfl, step_of_blockReset rfl⟩

end Sys2Proof.Machine
end
